-- ==== Sys2Proof/Word.lean ====
section
/-! DEFINITION. The widths of R8 and R10: a byte is 8 bits, an address or a register pair is 16 bits. -/

namespace Sys2Proof

/-- The unit of every access and the width of every CPU register (R8, R60). -/
abbrev Byte := BitVec 8

/-- The width of an address, a register pair, SP and PC (R8, R20). -/
abbrev Word := BitVec 16

end Sys2Proof
end

