-- ==== Sys2Proof/Machine/Bits.lean ====
section
/-! DEFINITION. Bit fields, byte order and sign extension (R10, R11, R12, R77). -/

namespace Sys2Proof.Machine

/-- `v[15:8]` of a 16-bit value (R10). -/
def hiByte (w : Word) : Byte := w.extractLsb' 8 8

/-- `v[7:0]` of a 16-bit value (R10). -/
def loByte (w : Word) : Byte := w.extractLsb' 0 8

/-- `{hi, lo}`: the pair of two bytes, the first the high one (R10, R21). -/
def mkWord (hi lo : Byte) : Word := hi ++ lo

/-- `sext_16(e)` (R11): the byte as a two's complement number, extended to 16 bits. -/
def sext16 (e : Byte) : Word := if e.toNat < 0x80 then e.setWidth 16 else 0xFF00 + e.setWidth 16

/-- `{x, y, z}` of an opcode byte (R111, R112). -/
def fieldX (op : Byte) : Nat := op.toNat / 64

/-- Bits 5:3 of an opcode byte (R111). -/
def fieldY (op : Byte) : Nat := op.toNat / 8 % 8

/-- Bits 2:0 of an opcode byte (R111). -/
def fieldZ (op : Byte) : Nat := op.toNat % 8

/-- `p = y[2:1]` (R111). -/
def fieldP (op : Byte) : Nat := fieldY op / 2

/-- `q = y[0]` (R111). -/
def fieldQ (op : Byte) : Nat := fieldY op % 2

end Sys2Proof.Machine
end

