-- ==== Sys2Proof/Syntax.lean ====
section
/-! DEFINITION. The instructions as syntax: one constructor per row of spec/opcode_table.json (R131), with the immediate operands of
the row's format (R110, R122). The rows with immediates stand first (Lean's compiler limits the number of a constructor that
has fields), then the others, each in the table's order. An operand in parentheses is written `at`; the docstring is the row's
own spelling and its rule. -/

namespace Sys2Proof

/-- The 512 rows of the opcode table: the primary table (R123, R124), then the extended table (R126). -/
inductive Instr where
  /-- `LD BC,nn` (R170) -/
  | ld_BC_nn (nn : Word)
  /-- `LD B,n` (R141) -/
  | ld_B_n (n : Byte)
  /-- `LD (nn),SP` (R171) -/
  | ld_atNN_SP (nn : Word)
  /-- `LD C,n` (R141) -/
  | ld_C_n (n : Byte)
  /-- `STOP` (R272) -/
  | stop (x : Byte)
  /-- `LD DE,nn` (R170) -/
  | ld_DE_nn (nn : Word)
  /-- `LD D,n` (R141) -/
  | ld_D_n (n : Byte)
  /-- `JR e` (R253) -/
  | jr_e (e : Byte)
  /-- `LD E,n` (R141) -/
  | ld_E_n (n : Byte)
  /-- `JR NZ,e` (R254) -/
  | jr_NZ_e (e : Byte)
  /-- `LD HL,nn` (R170) -/
  | ld_HL_nn (nn : Word)
  /-- `LD H,n` (R141) -/
  | ld_H_n (n : Byte)
  /-- `JR Z,e` (R254) -/
  | jr_Z_e (e : Byte)
  /-- `LD L,n` (R141) -/
  | ld_L_n (n : Byte)
  /-- `JR NC,e` (R254) -/
  | jr_NC_e (e : Byte)
  /-- `LD SP,nn` (R170) -/
  | ld_SP_nn (nn : Word)
  /-- `LD (HL),n` (R144) -/
  | ld_atHL_n (n : Byte)
  /-- `JR C,e` (R254) -/
  | jr_C_e (e : Byte)
  /-- `LD A,n` (R141) -/
  | ld_A_n (n : Byte)
  /-- `JP NZ,nn` (R251) -/
  | jp_NZ_nn (nn : Word)
  /-- `JP nn` (R250) -/
  | jp_nn (nn : Word)
  /-- `CALL NZ,nn` (R256) -/
  | call_NZ_nn (nn : Word)
  /-- `ADD A,n` (R186) -/
  | add_n (n : Byte)
  /-- `JP Z,nn` (R251) -/
  | jp_Z_nn (nn : Word)
  /-- `CALL Z,nn` (R256) -/
  | call_Z_nn (nn : Word)
  /-- `CALL nn` (R255) -/
  | call_nn (nn : Word)
  /-- `ADC A,n` (R187) -/
  | adc_n (n : Byte)
  /-- `JP NC,nn` (R251) -/
  | jp_NC_nn (nn : Word)
  /-- `CALL NC,nn` (R256) -/
  | call_NC_nn (nn : Word)
  /-- `SUB n` (R188) -/
  | sub_n (n : Byte)
  /-- `JP C,nn` (R251) -/
  | jp_C_nn (nn : Word)
  /-- `CALL C,nn` (R256) -/
  | call_C_nn (nn : Word)
  /-- `SBC A,n` (R189) -/
  | sbc_n (n : Byte)
  /-- `LDH (n),A` (R152) -/
  | ldh_atN_A (n : Byte)
  /-- `AND n` (R190) -/
  | and_n (n : Byte)
  /-- `ADD SP,e` (R218) -/
  | add_SP_e (e : Byte)
  /-- `LD (nn),A` (R150) -/
  | ld_atNN_A (nn : Word)
  /-- `XOR n` (R191) -/
  | xor_n (n : Byte)
  /-- `LDH A,(n)` (R151) -/
  | ldh_A_atN (n : Byte)
  /-- `OR n` (R192) -/
  | or_n (n : Byte)
  /-- `LD HL,SP+e` (R219) -/
  | ld_HL_SPe (e : Byte)
  /-- `LD A,(nn)` (R149) -/
  | ld_A_atNN (nn : Word)
  /-- `CP n` (R193) -/
  | cp_n (n : Byte)
  /-- `NOP` (R270) -/
  | nop
  /-- `LD (BC),A` (R147) -/
  | ld_atBC_A
  /-- `INC BC` (R216) -/
  | inc_BC
  /-- `INC B` (R194) -/
  | inc_B
  /-- `DEC B` (R196) -/
  | dec_B
  /-- `RLCA` (R225) -/
  | rlca
  /-- `ADD HL,BC` (R215) -/
  | add_HL_BC
  /-- `LD A,(BC)` (R145) -/
  | ld_A_atBC
  /-- `DEC BC` (R217) -/
  | dec_BC
  /-- `INC C` (R194) -/
  | inc_C
  /-- `DEC C` (R196) -/
  | dec_C
  /-- `RRCA` (R226) -/
  | rrca
  /-- `LD (DE),A` (R148) -/
  | ld_atDE_A
  /-- `INC DE` (R216) -/
  | inc_DE
  /-- `INC D` (R194) -/
  | inc_D
  /-- `DEC D` (R196) -/
  | dec_D
  /-- `RLA` (R227) -/
  | rla
  /-- `ADD HL,DE` (R215) -/
  | add_HL_DE
  /-- `LD A,(DE)` (R146) -/
  | ld_A_atDE
  /-- `DEC DE` (R217) -/
  | dec_DE
  /-- `INC E` (R194) -/
  | inc_E
  /-- `DEC E` (R196) -/
  | dec_E
  /-- `RRA` (R228) -/
  | rra
  /-- `LD (HL+),A` (R157) -/
  | ld_atHLinc_A
  /-- `INC HL` (R216) -/
  | inc_HL
  /-- `INC H` (R194) -/
  | inc_H
  /-- `DEC H` (R196) -/
  | dec_H
  /-- `DAA` (R198) -/
  | daa
  /-- `ADD HL,HL` (R215) -/
  | add_HL_HL
  /-- `LD A,(HL+)` (R155) -/
  | ld_A_atHLinc
  /-- `DEC HL` (R217) -/
  | dec_HL
  /-- `INC L` (R194) -/
  | inc_L
  /-- `DEC L` (R196) -/
  | dec_L
  /-- `CPL` (R199) -/
  | cpl
  /-- `LD (HL-),A` (R158) -/
  | ld_atHLdec_A
  /-- `INC SP` (R216) -/
  | inc_SP
  /-- `INC (HL)` (R195) -/
  | inc_atHL
  /-- `DEC (HL)` (R197) -/
  | dec_atHL
  /-- `SCF` (R200) -/
  | scf
  /-- `ADD HL,SP` (R215) -/
  | add_HL_SP
  /-- `LD A,(HL-)` (R156) -/
  | ld_A_atHLdec
  /-- `DEC SP` (R217) -/
  | dec_SP
  /-- `INC A` (R194) -/
  | inc_A
  /-- `DEC A` (R196) -/
  | dec_A
  /-- `CCF` (R201) -/
  | ccf
  /-- `LD B,B` (R140) -/
  | ld_B_B
  /-- `LD B,C` (R140) -/
  | ld_B_C
  /-- `LD B,D` (R140) -/
  | ld_B_D
  /-- `LD B,E` (R140) -/
  | ld_B_E
  /-- `LD B,H` (R140) -/
  | ld_B_H
  /-- `LD B,L` (R140) -/
  | ld_B_L
  /-- `LD B,(HL)` (R142) -/
  | ld_B_atHL
  /-- `LD B,A` (R140) -/
  | ld_B_A
  /-- `LD C,B` (R140) -/
  | ld_C_B
  /-- `LD C,C` (R140) -/
  | ld_C_C
  /-- `LD C,D` (R140) -/
  | ld_C_D
  /-- `LD C,E` (R140) -/
  | ld_C_E
  /-- `LD C,H` (R140) -/
  | ld_C_H
  /-- `LD C,L` (R140) -/
  | ld_C_L
  /-- `LD C,(HL)` (R142) -/
  | ld_C_atHL
  /-- `LD C,A` (R140) -/
  | ld_C_A
  /-- `LD D,B` (R140) -/
  | ld_D_B
  /-- `LD D,C` (R140) -/
  | ld_D_C
  /-- `LD D,D` (R140) -/
  | ld_D_D
  /-- `LD D,E` (R140) -/
  | ld_D_E
  /-- `LD D,H` (R140) -/
  | ld_D_H
  /-- `LD D,L` (R140) -/
  | ld_D_L
  /-- `LD D,(HL)` (R142) -/
  | ld_D_atHL
  /-- `LD D,A` (R140) -/
  | ld_D_A
  /-- `LD E,B` (R140) -/
  | ld_E_B
  /-- `LD E,C` (R140) -/
  | ld_E_C
  /-- `LD E,D` (R140) -/
  | ld_E_D
  /-- `LD E,E` (R140) -/
  | ld_E_E
  /-- `LD E,H` (R140) -/
  | ld_E_H
  /-- `LD E,L` (R140) -/
  | ld_E_L
  /-- `LD E,(HL)` (R142) -/
  | ld_E_atHL
  /-- `LD E,A` (R140) -/
  | ld_E_A
  /-- `LD H,B` (R140) -/
  | ld_H_B
  /-- `LD H,C` (R140) -/
  | ld_H_C
  /-- `LD H,D` (R140) -/
  | ld_H_D
  /-- `LD H,E` (R140) -/
  | ld_H_E
  /-- `LD H,H` (R140) -/
  | ld_H_H
  /-- `LD H,L` (R140) -/
  | ld_H_L
  /-- `LD H,(HL)` (R142) -/
  | ld_H_atHL
  /-- `LD H,A` (R140) -/
  | ld_H_A
  /-- `LD L,B` (R140) -/
  | ld_L_B
  /-- `LD L,C` (R140) -/
  | ld_L_C
  /-- `LD L,D` (R140) -/
  | ld_L_D
  /-- `LD L,E` (R140) -/
  | ld_L_E
  /-- `LD L,H` (R140) -/
  | ld_L_H
  /-- `LD L,L` (R140) -/
  | ld_L_L
  /-- `LD L,(HL)` (R142) -/
  | ld_L_atHL
  /-- `LD L,A` (R140) -/
  | ld_L_A
  /-- `LD (HL),B` (R143) -/
  | ld_atHL_B
  /-- `LD (HL),C` (R143) -/
  | ld_atHL_C
  /-- `LD (HL),D` (R143) -/
  | ld_atHL_D
  /-- `LD (HL),E` (R143) -/
  | ld_atHL_E
  /-- `LD (HL),H` (R143) -/
  | ld_atHL_H
  /-- `LD (HL),L` (R143) -/
  | ld_atHL_L
  /-- `HALT` (R271) -/
  | halt
  /-- `LD (HL),A` (R143) -/
  | ld_atHL_A
  /-- `LD A,B` (R140) -/
  | ld_A_B
  /-- `LD A,C` (R140) -/
  | ld_A_C
  /-- `LD A,D` (R140) -/
  | ld_A_D
  /-- `LD A,E` (R140) -/
  | ld_A_E
  /-- `LD A,H` (R140) -/
  | ld_A_H
  /-- `LD A,L` (R140) -/
  | ld_A_L
  /-- `LD A,(HL)` (R142) -/
  | ld_A_atHL
  /-- `LD A,A` (R140) -/
  | ld_A_A
  /-- `ADD A,B` (R186) -/
  | add_B
  /-- `ADD A,C` (R186) -/
  | add_C
  /-- `ADD A,D` (R186) -/
  | add_D
  /-- `ADD A,E` (R186) -/
  | add_E
  /-- `ADD A,H` (R186) -/
  | add_H
  /-- `ADD A,L` (R186) -/
  | add_L
  /-- `ADD A,(HL)` (R186) -/
  | add_atHL
  /-- `ADD A,A` (R186) -/
  | add_A
  /-- `ADC A,B` (R187) -/
  | adc_B
  /-- `ADC A,C` (R187) -/
  | adc_C
  /-- `ADC A,D` (R187) -/
  | adc_D
  /-- `ADC A,E` (R187) -/
  | adc_E
  /-- `ADC A,H` (R187) -/
  | adc_H
  /-- `ADC A,L` (R187) -/
  | adc_L
  /-- `ADC A,(HL)` (R187) -/
  | adc_atHL
  /-- `ADC A,A` (R187) -/
  | adc_A
  /-- `SUB B` (R188) -/
  | sub_B
  /-- `SUB C` (R188) -/
  | sub_C
  /-- `SUB D` (R188) -/
  | sub_D
  /-- `SUB E` (R188) -/
  | sub_E
  /-- `SUB H` (R188) -/
  | sub_H
  /-- `SUB L` (R188) -/
  | sub_L
  /-- `SUB (HL)` (R188) -/
  | sub_atHL
  /-- `SUB A` (R188) -/
  | sub_A
  /-- `SBC A,B` (R189) -/
  | sbc_B
  /-- `SBC A,C` (R189) -/
  | sbc_C
  /-- `SBC A,D` (R189) -/
  | sbc_D
  /-- `SBC A,E` (R189) -/
  | sbc_E
  /-- `SBC A,H` (R189) -/
  | sbc_H
  /-- `SBC A,L` (R189) -/
  | sbc_L
  /-- `SBC A,(HL)` (R189) -/
  | sbc_atHL
  /-- `SBC A,A` (R189) -/
  | sbc_A
  /-- `AND B` (R190) -/
  | and_B
  /-- `AND C` (R190) -/
  | and_C
  /-- `AND D` (R190) -/
  | and_D
  /-- `AND E` (R190) -/
  | and_E
  /-- `AND H` (R190) -/
  | and_H
  /-- `AND L` (R190) -/
  | and_L
  /-- `AND (HL)` (R190) -/
  | and_atHL
  /-- `AND A` (R190) -/
  | and_A
  /-- `XOR B` (R191) -/
  | xor_B
  /-- `XOR C` (R191) -/
  | xor_C
  /-- `XOR D` (R191) -/
  | xor_D
  /-- `XOR E` (R191) -/
  | xor_E
  /-- `XOR H` (R191) -/
  | xor_H
  /-- `XOR L` (R191) -/
  | xor_L
  /-- `XOR (HL)` (R191) -/
  | xor_atHL
  /-- `XOR A` (R191) -/
  | xor_A
  /-- `OR B` (R192) -/
  | or_B
  /-- `OR C` (R192) -/
  | or_C
  /-- `OR D` (R192) -/
  | or_D
  /-- `OR E` (R192) -/
  | or_E
  /-- `OR H` (R192) -/
  | or_H
  /-- `OR L` (R192) -/
  | or_L
  /-- `OR (HL)` (R192) -/
  | or_atHL
  /-- `OR A` (R192) -/
  | or_A
  /-- `CP B` (R193) -/
  | cp_B
  /-- `CP C` (R193) -/
  | cp_C
  /-- `CP D` (R193) -/
  | cp_D
  /-- `CP E` (R193) -/
  | cp_E
  /-- `CP H` (R193) -/
  | cp_H
  /-- `CP L` (R193) -/
  | cp_L
  /-- `CP (HL)` (R193) -/
  | cp_atHL
  /-- `CP A` (R193) -/
  | cp_A
  /-- `RET NZ` (R258) -/
  | ret_NZ
  /-- `POP BC` (R174) -/
  | pop_BC
  /-- `PUSH BC` (R173) -/
  | push_BC
  /-- `RST 0x00` (R260) -/
  | rst_00
  /-- `RET Z` (R258) -/
  | ret_Z
  /-- `RET` (R257) -/
  | ret
  /-- `PREFIX CB` (R275) -/
  | prefix_CB
  /-- `RST 0x08` (R260) -/
  | rst_08
  /-- `RET NC` (R258) -/
  | ret_NC
  /-- `POP DE` (R174) -/
  | pop_DE
  /-- `UNDEF_D3` (R276) -/
  | undef_D3
  /-- `PUSH DE` (R173) -/
  | push_DE
  /-- `RST 0x10` (R260) -/
  | rst_10
  /-- `RET C` (R258) -/
  | ret_C
  /-- `RETI` (R259) -/
  | reti
  /-- `UNDEF_DB` (R276) -/
  | undef_DB
  /-- `UNDEF_DD` (R276) -/
  | undef_DD
  /-- `RST 0x18` (R260) -/
  | rst_18
  /-- `POP HL` (R174) -/
  | pop_HL
  /-- `LD (C),A` (R154) -/
  | ld_atC_A
  /-- `UNDEF_E3` (R276) -/
  | undef_E3
  /-- `UNDEF_E4` (R276) -/
  | undef_E4
  /-- `PUSH HL` (R173) -/
  | push_HL
  /-- `RST 0x20` (R260) -/
  | rst_20
  /-- `JP HL` (R252) -/
  | jp_HL
  /-- `UNDEF_EB` (R276) -/
  | undef_EB
  /-- `UNDEF_EC` (R276) -/
  | undef_EC
  /-- `UNDEF_ED` (R276) -/
  | undef_ED
  /-- `RST 0x28` (R260) -/
  | rst_28
  /-- `POP AF` (R175) -/
  | pop_AF
  /-- `LD A,(C)` (R153) -/
  | ld_A_atC
  /-- `DI` (R273) -/
  | di
  /-- `UNDEF_F4` (R276) -/
  | undef_F4
  /-- `PUSH AF` (R173) -/
  | push_AF
  /-- `RST 0x30` (R260) -/
  | rst_30
  /-- `LD SP,HL` (R172) -/
  | ld_SP_HL
  /-- `EI` (R274) -/
  | ei
  /-- `UNDEF_FC` (R276) -/
  | undef_FC
  /-- `UNDEF_FD` (R276) -/
  | undef_FD
  /-- `RST 0x38` (R260) -/
  | rst_38
  /-- `RLC B` (R229) -/
  | rlc_B
  /-- `RLC C` (R229) -/
  | rlc_C
  /-- `RLC D` (R229) -/
  | rlc_D
  /-- `RLC E` (R229) -/
  | rlc_E
  /-- `RLC H` (R229) -/
  | rlc_H
  /-- `RLC L` (R229) -/
  | rlc_L
  /-- `RLC (HL)` (R229) -/
  | rlc_atHL
  /-- `RLC A` (R229) -/
  | rlc_A
  /-- `RRC B` (R230) -/
  | rrc_B
  /-- `RRC C` (R230) -/
  | rrc_C
  /-- `RRC D` (R230) -/
  | rrc_D
  /-- `RRC E` (R230) -/
  | rrc_E
  /-- `RRC H` (R230) -/
  | rrc_H
  /-- `RRC L` (R230) -/
  | rrc_L
  /-- `RRC (HL)` (R230) -/
  | rrc_atHL
  /-- `RRC A` (R230) -/
  | rrc_A
  /-- `RL B` (R231) -/
  | rl_B
  /-- `RL C` (R231) -/
  | rl_C
  /-- `RL D` (R231) -/
  | rl_D
  /-- `RL E` (R231) -/
  | rl_E
  /-- `RL H` (R231) -/
  | rl_H
  /-- `RL L` (R231) -/
  | rl_L
  /-- `RL (HL)` (R231) -/
  | rl_atHL
  /-- `RL A` (R231) -/
  | rl_A
  /-- `RR B` (R232) -/
  | rr_B
  /-- `RR C` (R232) -/
  | rr_C
  /-- `RR D` (R232) -/
  | rr_D
  /-- `RR E` (R232) -/
  | rr_E
  /-- `RR H` (R232) -/
  | rr_H
  /-- `RR L` (R232) -/
  | rr_L
  /-- `RR (HL)` (R232) -/
  | rr_atHL
  /-- `RR A` (R232) -/
  | rr_A
  /-- `SLA B` (R233) -/
  | sla_B
  /-- `SLA C` (R233) -/
  | sla_C
  /-- `SLA D` (R233) -/
  | sla_D
  /-- `SLA E` (R233) -/
  | sla_E
  /-- `SLA H` (R233) -/
  | sla_H
  /-- `SLA L` (R233) -/
  | sla_L
  /-- `SLA (HL)` (R233) -/
  | sla_atHL
  /-- `SLA A` (R233) -/
  | sla_A
  /-- `SRA B` (R234) -/
  | sra_B
  /-- `SRA C` (R234) -/
  | sra_C
  /-- `SRA D` (R234) -/
  | sra_D
  /-- `SRA E` (R234) -/
  | sra_E
  /-- `SRA H` (R234) -/
  | sra_H
  /-- `SRA L` (R234) -/
  | sra_L
  /-- `SRA (HL)` (R234) -/
  | sra_atHL
  /-- `SRA A` (R234) -/
  | sra_A
  /-- `SWAP B` (R235) -/
  | swap_B
  /-- `SWAP C` (R235) -/
  | swap_C
  /-- `SWAP D` (R235) -/
  | swap_D
  /-- `SWAP E` (R235) -/
  | swap_E
  /-- `SWAP H` (R235) -/
  | swap_H
  /-- `SWAP L` (R235) -/
  | swap_L
  /-- `SWAP (HL)` (R235) -/
  | swap_atHL
  /-- `SWAP A` (R235) -/
  | swap_A
  /-- `SRL B` (R236) -/
  | srl_B
  /-- `SRL C` (R236) -/
  | srl_C
  /-- `SRL D` (R236) -/
  | srl_D
  /-- `SRL E` (R236) -/
  | srl_E
  /-- `SRL H` (R236) -/
  | srl_H
  /-- `SRL L` (R236) -/
  | srl_L
  /-- `SRL (HL)` (R236) -/
  | srl_atHL
  /-- `SRL A` (R236) -/
  | srl_A
  /-- `BIT 0,B` (R237) -/
  | bit_0_B
  /-- `BIT 0,C` (R237) -/
  | bit_0_C
  /-- `BIT 0,D` (R237) -/
  | bit_0_D
  /-- `BIT 0,E` (R237) -/
  | bit_0_E
  /-- `BIT 0,H` (R237) -/
  | bit_0_H
  /-- `BIT 0,L` (R237) -/
  | bit_0_L
  /-- `BIT 0,(HL)` (R237) -/
  | bit_0_atHL
  /-- `BIT 0,A` (R237) -/
  | bit_0_A
  /-- `BIT 1,B` (R237) -/
  | bit_1_B
  /-- `BIT 1,C` (R237) -/
  | bit_1_C
  /-- `BIT 1,D` (R237) -/
  | bit_1_D
  /-- `BIT 1,E` (R237) -/
  | bit_1_E
  /-- `BIT 1,H` (R237) -/
  | bit_1_H
  /-- `BIT 1,L` (R237) -/
  | bit_1_L
  /-- `BIT 1,(HL)` (R237) -/
  | bit_1_atHL
  /-- `BIT 1,A` (R237) -/
  | bit_1_A
  /-- `BIT 2,B` (R237) -/
  | bit_2_B
  /-- `BIT 2,C` (R237) -/
  | bit_2_C
  /-- `BIT 2,D` (R237) -/
  | bit_2_D
  /-- `BIT 2,E` (R237) -/
  | bit_2_E
  /-- `BIT 2,H` (R237) -/
  | bit_2_H
  /-- `BIT 2,L` (R237) -/
  | bit_2_L
  /-- `BIT 2,(HL)` (R237) -/
  | bit_2_atHL
  /-- `BIT 2,A` (R237) -/
  | bit_2_A
  /-- `BIT 3,B` (R237) -/
  | bit_3_B
  /-- `BIT 3,C` (R237) -/
  | bit_3_C
  /-- `BIT 3,D` (R237) -/
  | bit_3_D
  /-- `BIT 3,E` (R237) -/
  | bit_3_E
  /-- `BIT 3,H` (R237) -/
  | bit_3_H
  /-- `BIT 3,L` (R237) -/
  | bit_3_L
  /-- `BIT 3,(HL)` (R237) -/
  | bit_3_atHL
  /-- `BIT 3,A` (R237) -/
  | bit_3_A
  /-- `BIT 4,B` (R237) -/
  | bit_4_B
  /-- `BIT 4,C` (R237) -/
  | bit_4_C
  /-- `BIT 4,D` (R237) -/
  | bit_4_D
  /-- `BIT 4,E` (R237) -/
  | bit_4_E
  /-- `BIT 4,H` (R237) -/
  | bit_4_H
  /-- `BIT 4,L` (R237) -/
  | bit_4_L
  /-- `BIT 4,(HL)` (R237) -/
  | bit_4_atHL
  /-- `BIT 4,A` (R237) -/
  | bit_4_A
  /-- `BIT 5,B` (R237) -/
  | bit_5_B
  /-- `BIT 5,C` (R237) -/
  | bit_5_C
  /-- `BIT 5,D` (R237) -/
  | bit_5_D
  /-- `BIT 5,E` (R237) -/
  | bit_5_E
  /-- `BIT 5,H` (R237) -/
  | bit_5_H
  /-- `BIT 5,L` (R237) -/
  | bit_5_L
  /-- `BIT 5,(HL)` (R237) -/
  | bit_5_atHL
  /-- `BIT 5,A` (R237) -/
  | bit_5_A
  /-- `BIT 6,B` (R237) -/
  | bit_6_B
  /-- `BIT 6,C` (R237) -/
  | bit_6_C
  /-- `BIT 6,D` (R237) -/
  | bit_6_D
  /-- `BIT 6,E` (R237) -/
  | bit_6_E
  /-- `BIT 6,H` (R237) -/
  | bit_6_H
  /-- `BIT 6,L` (R237) -/
  | bit_6_L
  /-- `BIT 6,(HL)` (R237) -/
  | bit_6_atHL
  /-- `BIT 6,A` (R237) -/
  | bit_6_A
  /-- `BIT 7,B` (R237) -/
  | bit_7_B
  /-- `BIT 7,C` (R237) -/
  | bit_7_C
  /-- `BIT 7,D` (R237) -/
  | bit_7_D
  /-- `BIT 7,E` (R237) -/
  | bit_7_E
  /-- `BIT 7,H` (R237) -/
  | bit_7_H
  /-- `BIT 7,L` (R237) -/
  | bit_7_L
  /-- `BIT 7,(HL)` (R237) -/
  | bit_7_atHL
  /-- `BIT 7,A` (R237) -/
  | bit_7_A
  /-- `RES 0,B` (R238) -/
  | res_0_B
  /-- `RES 0,C` (R238) -/
  | res_0_C
  /-- `RES 0,D` (R238) -/
  | res_0_D
  /-- `RES 0,E` (R238) -/
  | res_0_E
  /-- `RES 0,H` (R238) -/
  | res_0_H
  /-- `RES 0,L` (R238) -/
  | res_0_L
  /-- `RES 0,(HL)` (R238) -/
  | res_0_atHL
  /-- `RES 0,A` (R238) -/
  | res_0_A
  /-- `RES 1,B` (R238) -/
  | res_1_B
  /-- `RES 1,C` (R238) -/
  | res_1_C
  /-- `RES 1,D` (R238) -/
  | res_1_D
  /-- `RES 1,E` (R238) -/
  | res_1_E
  /-- `RES 1,H` (R238) -/
  | res_1_H
  /-- `RES 1,L` (R238) -/
  | res_1_L
  /-- `RES 1,(HL)` (R238) -/
  | res_1_atHL
  /-- `RES 1,A` (R238) -/
  | res_1_A
  /-- `RES 2,B` (R238) -/
  | res_2_B
  /-- `RES 2,C` (R238) -/
  | res_2_C
  /-- `RES 2,D` (R238) -/
  | res_2_D
  /-- `RES 2,E` (R238) -/
  | res_2_E
  /-- `RES 2,H` (R238) -/
  | res_2_H
  /-- `RES 2,L` (R238) -/
  | res_2_L
  /-- `RES 2,(HL)` (R238) -/
  | res_2_atHL
  /-- `RES 2,A` (R238) -/
  | res_2_A
  /-- `RES 3,B` (R238) -/
  | res_3_B
  /-- `RES 3,C` (R238) -/
  | res_3_C
  /-- `RES 3,D` (R238) -/
  | res_3_D
  /-- `RES 3,E` (R238) -/
  | res_3_E
  /-- `RES 3,H` (R238) -/
  | res_3_H
  /-- `RES 3,L` (R238) -/
  | res_3_L
  /-- `RES 3,(HL)` (R238) -/
  | res_3_atHL
  /-- `RES 3,A` (R238) -/
  | res_3_A
  /-- `RES 4,B` (R238) -/
  | res_4_B
  /-- `RES 4,C` (R238) -/
  | res_4_C
  /-- `RES 4,D` (R238) -/
  | res_4_D
  /-- `RES 4,E` (R238) -/
  | res_4_E
  /-- `RES 4,H` (R238) -/
  | res_4_H
  /-- `RES 4,L` (R238) -/
  | res_4_L
  /-- `RES 4,(HL)` (R238) -/
  | res_4_atHL
  /-- `RES 4,A` (R238) -/
  | res_4_A
  /-- `RES 5,B` (R238) -/
  | res_5_B
  /-- `RES 5,C` (R238) -/
  | res_5_C
  /-- `RES 5,D` (R238) -/
  | res_5_D
  /-- `RES 5,E` (R238) -/
  | res_5_E
  /-- `RES 5,H` (R238) -/
  | res_5_H
  /-- `RES 5,L` (R238) -/
  | res_5_L
  /-- `RES 5,(HL)` (R238) -/
  | res_5_atHL
  /-- `RES 5,A` (R238) -/
  | res_5_A
  /-- `RES 6,B` (R238) -/
  | res_6_B
  /-- `RES 6,C` (R238) -/
  | res_6_C
  /-- `RES 6,D` (R238) -/
  | res_6_D
  /-- `RES 6,E` (R238) -/
  | res_6_E
  /-- `RES 6,H` (R238) -/
  | res_6_H
  /-- `RES 6,L` (R238) -/
  | res_6_L
  /-- `RES 6,(HL)` (R238) -/
  | res_6_atHL
  /-- `RES 6,A` (R238) -/
  | res_6_A
  /-- `RES 7,B` (R238) -/
  | res_7_B
  /-- `RES 7,C` (R238) -/
  | res_7_C
  /-- `RES 7,D` (R238) -/
  | res_7_D
  /-- `RES 7,E` (R238) -/
  | res_7_E
  /-- `RES 7,H` (R238) -/
  | res_7_H
  /-- `RES 7,L` (R238) -/
  | res_7_L
  /-- `RES 7,(HL)` (R238) -/
  | res_7_atHL
  /-- `RES 7,A` (R238) -/
  | res_7_A
  /-- `SET 0,B` (R239) -/
  | set_0_B
  /-- `SET 0,C` (R239) -/
  | set_0_C
  /-- `SET 0,D` (R239) -/
  | set_0_D
  /-- `SET 0,E` (R239) -/
  | set_0_E
  /-- `SET 0,H` (R239) -/
  | set_0_H
  /-- `SET 0,L` (R239) -/
  | set_0_L
  /-- `SET 0,(HL)` (R239) -/
  | set_0_atHL
  /-- `SET 0,A` (R239) -/
  | set_0_A
  /-- `SET 1,B` (R239) -/
  | set_1_B
  /-- `SET 1,C` (R239) -/
  | set_1_C
  /-- `SET 1,D` (R239) -/
  | set_1_D
  /-- `SET 1,E` (R239) -/
  | set_1_E
  /-- `SET 1,H` (R239) -/
  | set_1_H
  /-- `SET 1,L` (R239) -/
  | set_1_L
  /-- `SET 1,(HL)` (R239) -/
  | set_1_atHL
  /-- `SET 1,A` (R239) -/
  | set_1_A
  /-- `SET 2,B` (R239) -/
  | set_2_B
  /-- `SET 2,C` (R239) -/
  | set_2_C
  /-- `SET 2,D` (R239) -/
  | set_2_D
  /-- `SET 2,E` (R239) -/
  | set_2_E
  /-- `SET 2,H` (R239) -/
  | set_2_H
  /-- `SET 2,L` (R239) -/
  | set_2_L
  /-- `SET 2,(HL)` (R239) -/
  | set_2_atHL
  /-- `SET 2,A` (R239) -/
  | set_2_A
  /-- `SET 3,B` (R239) -/
  | set_3_B
  /-- `SET 3,C` (R239) -/
  | set_3_C
  /-- `SET 3,D` (R239) -/
  | set_3_D
  /-- `SET 3,E` (R239) -/
  | set_3_E
  /-- `SET 3,H` (R239) -/
  | set_3_H
  /-- `SET 3,L` (R239) -/
  | set_3_L
  /-- `SET 3,(HL)` (R239) -/
  | set_3_atHL
  /-- `SET 3,A` (R239) -/
  | set_3_A
  /-- `SET 4,B` (R239) -/
  | set_4_B
  /-- `SET 4,C` (R239) -/
  | set_4_C
  /-- `SET 4,D` (R239) -/
  | set_4_D
  /-- `SET 4,E` (R239) -/
  | set_4_E
  /-- `SET 4,H` (R239) -/
  | set_4_H
  /-- `SET 4,L` (R239) -/
  | set_4_L
  /-- `SET 4,(HL)` (R239) -/
  | set_4_atHL
  /-- `SET 4,A` (R239) -/
  | set_4_A
  /-- `SET 5,B` (R239) -/
  | set_5_B
  /-- `SET 5,C` (R239) -/
  | set_5_C
  /-- `SET 5,D` (R239) -/
  | set_5_D
  /-- `SET 5,E` (R239) -/
  | set_5_E
  /-- `SET 5,H` (R239) -/
  | set_5_H
  /-- `SET 5,L` (R239) -/
  | set_5_L
  /-- `SET 5,(HL)` (R239) -/
  | set_5_atHL
  /-- `SET 5,A` (R239) -/
  | set_5_A
  /-- `SET 6,B` (R239) -/
  | set_6_B
  /-- `SET 6,C` (R239) -/
  | set_6_C
  /-- `SET 6,D` (R239) -/
  | set_6_D
  /-- `SET 6,E` (R239) -/
  | set_6_E
  /-- `SET 6,H` (R239) -/
  | set_6_H
  /-- `SET 6,L` (R239) -/
  | set_6_L
  /-- `SET 6,(HL)` (R239) -/
  | set_6_atHL
  /-- `SET 6,A` (R239) -/
  | set_6_A
  /-- `SET 7,B` (R239) -/
  | set_7_B
  /-- `SET 7,C` (R239) -/
  | set_7_C
  /-- `SET 7,D` (R239) -/
  | set_7_D
  /-- `SET 7,E` (R239) -/
  | set_7_E
  /-- `SET 7,H` (R239) -/
  | set_7_H
  /-- `SET 7,L` (R239) -/
  | set_7_L
  /-- `SET 7,(HL)` (R239) -/
  | set_7_atHL
  /-- `SET 7,A` (R239) -/
  | set_7_A
deriving DecidableEq, Repr

end Sys2Proof
end

