-- ==== Sys2Proof/WellFormed.lean ====
section
/-! DEFINITION. Which terms of Instr are whole instructions. Operand values need no check: every immediate has its exact
width, and every register, pair, condition and bit index is in the constructor's name. -/

namespace Sys2Proof

/-- A whole instruction. The primary table's row 0xCB is refused: "It is not an instruction by itself" (R275). -/
def Instr.wellFormed (i : Instr) : Bool := decide (i ≠ .prefix_CB)

/-- The same as a proposition. -/
abbrev WellFormed (i : Instr) : Prop := i.wellFormed = true

end Sys2Proof
end

