-- ==== Sys2Proof/Decode.lean ====
section
/-! DEFINITION. The decoder, total on any bytes, and the encoder, both written from the opcode grid of R124 and R126. -/

namespace Sys2Proof

open Machine (mkWord loByte hiByte)

/-- Why a list of bytes is no instruction. Every opcode of both tables is one (R127, R128), so only missing bytes are. -/
inductive DecodeError where
  /-- There is no opcode byte. -/
  | noBytes
  /-- The immediate bytes of this opcode are not all there. -/
  | truncated (op : Byte)
deriving DecidableEq, Repr

/-- The opcodes with one byte after them: the formats OP_N8, OP_E8 and OP_PAD (R110). -/
def twoByteOpcodes : List Nat :=
  [0x06, 0x0E, 0x10, 0x16, 0x18, 0x1E, 0x20, 0x26, 0x28, 0x2E, 0x30, 0x36, 0x38, 0x3E, 0xC6, 0xCE] ++
  [0xD6, 0xDE, 0xE0, 0xE6, 0xE8, 0xEE, 0xF0, 0xF6, 0xF8, 0xFE]

/-- The opcodes with two bytes after them: the format OP_N16 (R110). -/
def threeByteOpcodes : List Nat :=
  [0x01, 0x08, 0x11, 0x21, 0x31, 0xC2, 0xC3, 0xC4, 0xCA, 0xCC, 0xCD, 0xD2, 0xD4, 0xDA, 0xDC, 0xEA] ++
  [0xFA]

/-- The length in bytes of the instruction that a first byte begins (R110, R128). -/
def instrLength (op : Byte) : Nat :=
  if op.toNat ∈ threeByteOpcodes then 3
  else if op.toNat ∈ twoByteOpcodes ∨ op = 0xCB then 2
  else 1

/-- Row 0x of the grid of R124: the column is the low nibble. -/
def primaryRow0 (col : Nat) (n : Byte) (nn : Word) : Instr :=
  match col with
  | 0x0 => .nop
  | 0x1 => .ld_BC_nn nn
  | 0x2 => .ld_atBC_A
  | 0x3 => .inc_BC
  | 0x4 => .inc_B
  | 0x5 => .dec_B
  | 0x6 => .ld_B_n n
  | 0x7 => .rlca
  | 0x8 => .ld_atNN_SP nn
  | 0x9 => .add_HL_BC
  | 0xA => .ld_A_atBC
  | 0xB => .dec_BC
  | 0xC => .inc_C
  | 0xD => .dec_C
  | 0xE => .ld_C_n n
  | _ => .rrca

/-- Row 1x of the grid of R124: the column is the low nibble. -/
def primaryRow1 (col : Nat) (n : Byte) (nn : Word) : Instr :=
  match col with
  | 0x0 => .stop n
  | 0x1 => .ld_DE_nn nn
  | 0x2 => .ld_atDE_A
  | 0x3 => .inc_DE
  | 0x4 => .inc_D
  | 0x5 => .dec_D
  | 0x6 => .ld_D_n n
  | 0x7 => .rla
  | 0x8 => .jr_e n
  | 0x9 => .add_HL_DE
  | 0xA => .ld_A_atDE
  | 0xB => .dec_DE
  | 0xC => .inc_E
  | 0xD => .dec_E
  | 0xE => .ld_E_n n
  | _ => .rra

/-- Row 2x of the grid of R124: the column is the low nibble. -/
def primaryRow2 (col : Nat) (n : Byte) (nn : Word) : Instr :=
  match col with
  | 0x0 => .jr_NZ_e n
  | 0x1 => .ld_HL_nn nn
  | 0x2 => .ld_atHLinc_A
  | 0x3 => .inc_HL
  | 0x4 => .inc_H
  | 0x5 => .dec_H
  | 0x6 => .ld_H_n n
  | 0x7 => .daa
  | 0x8 => .jr_Z_e n
  | 0x9 => .add_HL_HL
  | 0xA => .ld_A_atHLinc
  | 0xB => .dec_HL
  | 0xC => .inc_L
  | 0xD => .dec_L
  | 0xE => .ld_L_n n
  | _ => .cpl

/-- Row 3x of the grid of R124: the column is the low nibble. -/
def primaryRow3 (col : Nat) (n : Byte) (nn : Word) : Instr :=
  match col with
  | 0x0 => .jr_NC_e n
  | 0x1 => .ld_SP_nn nn
  | 0x2 => .ld_atHLdec_A
  | 0x3 => .inc_SP
  | 0x4 => .inc_atHL
  | 0x5 => .dec_atHL
  | 0x6 => .ld_atHL_n n
  | 0x7 => .scf
  | 0x8 => .jr_C_e n
  | 0x9 => .add_HL_SP
  | 0xA => .ld_A_atHLdec
  | 0xB => .dec_SP
  | 0xC => .inc_A
  | 0xD => .dec_A
  | 0xE => .ld_A_n n
  | _ => .ccf

/-- Row 4x of the grid of R124: the column is the low nibble. -/
def primaryRow4 (col : Nat) (_n : Byte) (_nn : Word) : Instr :=
  match col with
  | 0x0 => .ld_B_B
  | 0x1 => .ld_B_C
  | 0x2 => .ld_B_D
  | 0x3 => .ld_B_E
  | 0x4 => .ld_B_H
  | 0x5 => .ld_B_L
  | 0x6 => .ld_B_atHL
  | 0x7 => .ld_B_A
  | 0x8 => .ld_C_B
  | 0x9 => .ld_C_C
  | 0xA => .ld_C_D
  | 0xB => .ld_C_E
  | 0xC => .ld_C_H
  | 0xD => .ld_C_L
  | 0xE => .ld_C_atHL
  | _ => .ld_C_A

/-- Row 5x of the grid of R124: the column is the low nibble. -/
def primaryRow5 (col : Nat) (_n : Byte) (_nn : Word) : Instr :=
  match col with
  | 0x0 => .ld_D_B
  | 0x1 => .ld_D_C
  | 0x2 => .ld_D_D
  | 0x3 => .ld_D_E
  | 0x4 => .ld_D_H
  | 0x5 => .ld_D_L
  | 0x6 => .ld_D_atHL
  | 0x7 => .ld_D_A
  | 0x8 => .ld_E_B
  | 0x9 => .ld_E_C
  | 0xA => .ld_E_D
  | 0xB => .ld_E_E
  | 0xC => .ld_E_H
  | 0xD => .ld_E_L
  | 0xE => .ld_E_atHL
  | _ => .ld_E_A

/-- Row 6x of the grid of R124: the column is the low nibble. -/
def primaryRow6 (col : Nat) (_n : Byte) (_nn : Word) : Instr :=
  match col with
  | 0x0 => .ld_H_B
  | 0x1 => .ld_H_C
  | 0x2 => .ld_H_D
  | 0x3 => .ld_H_E
  | 0x4 => .ld_H_H
  | 0x5 => .ld_H_L
  | 0x6 => .ld_H_atHL
  | 0x7 => .ld_H_A
  | 0x8 => .ld_L_B
  | 0x9 => .ld_L_C
  | 0xA => .ld_L_D
  | 0xB => .ld_L_E
  | 0xC => .ld_L_H
  | 0xD => .ld_L_L
  | 0xE => .ld_L_atHL
  | _ => .ld_L_A

/-- Row 7x of the grid of R124: the column is the low nibble. -/
def primaryRow7 (col : Nat) (_n : Byte) (_nn : Word) : Instr :=
  match col with
  | 0x0 => .ld_atHL_B
  | 0x1 => .ld_atHL_C
  | 0x2 => .ld_atHL_D
  | 0x3 => .ld_atHL_E
  | 0x4 => .ld_atHL_H
  | 0x5 => .ld_atHL_L
  | 0x6 => .halt
  | 0x7 => .ld_atHL_A
  | 0x8 => .ld_A_B
  | 0x9 => .ld_A_C
  | 0xA => .ld_A_D
  | 0xB => .ld_A_E
  | 0xC => .ld_A_H
  | 0xD => .ld_A_L
  | 0xE => .ld_A_atHL
  | _ => .ld_A_A

/-- Row 8x of the grid of R124: the column is the low nibble. -/
def primaryRow8 (col : Nat) (_n : Byte) (_nn : Word) : Instr :=
  match col with
  | 0x0 => .add_B
  | 0x1 => .add_C
  | 0x2 => .add_D
  | 0x3 => .add_E
  | 0x4 => .add_H
  | 0x5 => .add_L
  | 0x6 => .add_atHL
  | 0x7 => .add_A
  | 0x8 => .adc_B
  | 0x9 => .adc_C
  | 0xA => .adc_D
  | 0xB => .adc_E
  | 0xC => .adc_H
  | 0xD => .adc_L
  | 0xE => .adc_atHL
  | _ => .adc_A

/-- Row 9x of the grid of R124: the column is the low nibble. -/
def primaryRow9 (col : Nat) (_n : Byte) (_nn : Word) : Instr :=
  match col with
  | 0x0 => .sub_B
  | 0x1 => .sub_C
  | 0x2 => .sub_D
  | 0x3 => .sub_E
  | 0x4 => .sub_H
  | 0x5 => .sub_L
  | 0x6 => .sub_atHL
  | 0x7 => .sub_A
  | 0x8 => .sbc_B
  | 0x9 => .sbc_C
  | 0xA => .sbc_D
  | 0xB => .sbc_E
  | 0xC => .sbc_H
  | 0xD => .sbc_L
  | 0xE => .sbc_atHL
  | _ => .sbc_A

/-- Row Ax of the grid of R124: the column is the low nibble. -/
def primaryRowA (col : Nat) (_n : Byte) (_nn : Word) : Instr :=
  match col with
  | 0x0 => .and_B
  | 0x1 => .and_C
  | 0x2 => .and_D
  | 0x3 => .and_E
  | 0x4 => .and_H
  | 0x5 => .and_L
  | 0x6 => .and_atHL
  | 0x7 => .and_A
  | 0x8 => .xor_B
  | 0x9 => .xor_C
  | 0xA => .xor_D
  | 0xB => .xor_E
  | 0xC => .xor_H
  | 0xD => .xor_L
  | 0xE => .xor_atHL
  | _ => .xor_A

/-- Row Bx of the grid of R124: the column is the low nibble. -/
def primaryRowB (col : Nat) (_n : Byte) (_nn : Word) : Instr :=
  match col with
  | 0x0 => .or_B
  | 0x1 => .or_C
  | 0x2 => .or_D
  | 0x3 => .or_E
  | 0x4 => .or_H
  | 0x5 => .or_L
  | 0x6 => .or_atHL
  | 0x7 => .or_A
  | 0x8 => .cp_B
  | 0x9 => .cp_C
  | 0xA => .cp_D
  | 0xB => .cp_E
  | 0xC => .cp_H
  | 0xD => .cp_L
  | 0xE => .cp_atHL
  | _ => .cp_A

/-- Row Cx of the grid of R124: the column is the low nibble. -/
def primaryRowC (col : Nat) (n : Byte) (nn : Word) : Instr :=
  match col with
  | 0x0 => .ret_NZ
  | 0x1 => .pop_BC
  | 0x2 => .jp_NZ_nn nn
  | 0x3 => .jp_nn nn
  | 0x4 => .call_NZ_nn nn
  | 0x5 => .push_BC
  | 0x6 => .add_n n
  | 0x7 => .rst_00
  | 0x8 => .ret_Z
  | 0x9 => .ret
  | 0xA => .jp_Z_nn nn
  | 0xB => .prefix_CB
  | 0xC => .call_Z_nn nn
  | 0xD => .call_nn nn
  | 0xE => .adc_n n
  | _ => .rst_08

/-- Row Dx of the grid of R124: the column is the low nibble. -/
def primaryRowD (col : Nat) (n : Byte) (nn : Word) : Instr :=
  match col with
  | 0x0 => .ret_NC
  | 0x1 => .pop_DE
  | 0x2 => .jp_NC_nn nn
  | 0x3 => .undef_D3
  | 0x4 => .call_NC_nn nn
  | 0x5 => .push_DE
  | 0x6 => .sub_n n
  | 0x7 => .rst_10
  | 0x8 => .ret_C
  | 0x9 => .reti
  | 0xA => .jp_C_nn nn
  | 0xB => .undef_DB
  | 0xC => .call_C_nn nn
  | 0xD => .undef_DD
  | 0xE => .sbc_n n
  | _ => .rst_18

/-- Row Ex of the grid of R124: the column is the low nibble. -/
def primaryRowE (col : Nat) (n : Byte) (nn : Word) : Instr :=
  match col with
  | 0x0 => .ldh_atN_A n
  | 0x1 => .pop_HL
  | 0x2 => .ld_atC_A
  | 0x3 => .undef_E3
  | 0x4 => .undef_E4
  | 0x5 => .push_HL
  | 0x6 => .and_n n
  | 0x7 => .rst_20
  | 0x8 => .add_SP_e n
  | 0x9 => .jp_HL
  | 0xA => .ld_atNN_A nn
  | 0xB => .undef_EB
  | 0xC => .undef_EC
  | 0xD => .undef_ED
  | 0xE => .xor_n n
  | _ => .rst_28

/-- Row Fx of the grid of R124: the column is the low nibble. -/
def primaryRowF (col : Nat) (n : Byte) (nn : Word) : Instr :=
  match col with
  | 0x0 => .ldh_A_atN n
  | 0x1 => .pop_AF
  | 0x2 => .ld_A_atC
  | 0x3 => .di
  | 0x4 => .undef_F4
  | 0x5 => .push_AF
  | 0x6 => .or_n n
  | 0x7 => .rst_30
  | 0x8 => .ld_HL_SPe n
  | 0x9 => .ld_SP_HL
  | 0xA => .ld_A_atNN nn
  | 0xB => .ei
  | 0xC => .undef_FC
  | 0xD => .undef_FD
  | 0xE => .cp_n n
  | _ => .rst_38

/-- The primary table (R123, R124): `n` is the first byte after the opcode, `nn` the word of the two bytes after it. -/
def decodePrimary (op n : Byte) (nn : Word) : Instr :=
  match op.toNat / 16 with
  | 0x0 => primaryRow0 (op.toNat % 16) n nn
  | 0x1 => primaryRow1 (op.toNat % 16) n nn
  | 0x2 => primaryRow2 (op.toNat % 16) n nn
  | 0x3 => primaryRow3 (op.toNat % 16) n nn
  | 0x4 => primaryRow4 (op.toNat % 16) n nn
  | 0x5 => primaryRow5 (op.toNat % 16) n nn
  | 0x6 => primaryRow6 (op.toNat % 16) n nn
  | 0x7 => primaryRow7 (op.toNat % 16) n nn
  | 0x8 => primaryRow8 (op.toNat % 16) n nn
  | 0x9 => primaryRow9 (op.toNat % 16) n nn
  | 0xA => primaryRowA (op.toNat % 16) n nn
  | 0xB => primaryRowB (op.toNat % 16) n nn
  | 0xC => primaryRowC (op.toNat % 16) n nn
  | 0xD => primaryRowD (op.toNat % 16) n nn
  | 0xE => primaryRowE (op.toNat % 16) n nn
  | _ => primaryRowF (op.toNat % 16) n nn

/-- Row 0x of the extended table (R126). -/
def extendedRow0 (col : Nat) : Instr :=
  match col with
  | 0x0 => .rlc_B
  | 0x1 => .rlc_C
  | 0x2 => .rlc_D
  | 0x3 => .rlc_E
  | 0x4 => .rlc_H
  | 0x5 => .rlc_L
  | 0x6 => .rlc_atHL
  | 0x7 => .rlc_A
  | 0x8 => .rrc_B
  | 0x9 => .rrc_C
  | 0xA => .rrc_D
  | 0xB => .rrc_E
  | 0xC => .rrc_H
  | 0xD => .rrc_L
  | 0xE => .rrc_atHL
  | _ => .rrc_A

/-- Row 1x of the extended table (R126). -/
def extendedRow1 (col : Nat) : Instr :=
  match col with
  | 0x0 => .rl_B
  | 0x1 => .rl_C
  | 0x2 => .rl_D
  | 0x3 => .rl_E
  | 0x4 => .rl_H
  | 0x5 => .rl_L
  | 0x6 => .rl_atHL
  | 0x7 => .rl_A
  | 0x8 => .rr_B
  | 0x9 => .rr_C
  | 0xA => .rr_D
  | 0xB => .rr_E
  | 0xC => .rr_H
  | 0xD => .rr_L
  | 0xE => .rr_atHL
  | _ => .rr_A

/-- Row 2x of the extended table (R126). -/
def extendedRow2 (col : Nat) : Instr :=
  match col with
  | 0x0 => .sla_B
  | 0x1 => .sla_C
  | 0x2 => .sla_D
  | 0x3 => .sla_E
  | 0x4 => .sla_H
  | 0x5 => .sla_L
  | 0x6 => .sla_atHL
  | 0x7 => .sla_A
  | 0x8 => .sra_B
  | 0x9 => .sra_C
  | 0xA => .sra_D
  | 0xB => .sra_E
  | 0xC => .sra_H
  | 0xD => .sra_L
  | 0xE => .sra_atHL
  | _ => .sra_A

/-- Row 3x of the extended table (R126). -/
def extendedRow3 (col : Nat) : Instr :=
  match col with
  | 0x0 => .swap_B
  | 0x1 => .swap_C
  | 0x2 => .swap_D
  | 0x3 => .swap_E
  | 0x4 => .swap_H
  | 0x5 => .swap_L
  | 0x6 => .swap_atHL
  | 0x7 => .swap_A
  | 0x8 => .srl_B
  | 0x9 => .srl_C
  | 0xA => .srl_D
  | 0xB => .srl_E
  | 0xC => .srl_H
  | 0xD => .srl_L
  | 0xE => .srl_atHL
  | _ => .srl_A

/-- Row 4x of the extended table (R126). -/
def extendedRow4 (col : Nat) : Instr :=
  match col with
  | 0x0 => .bit_0_B
  | 0x1 => .bit_0_C
  | 0x2 => .bit_0_D
  | 0x3 => .bit_0_E
  | 0x4 => .bit_0_H
  | 0x5 => .bit_0_L
  | 0x6 => .bit_0_atHL
  | 0x7 => .bit_0_A
  | 0x8 => .bit_1_B
  | 0x9 => .bit_1_C
  | 0xA => .bit_1_D
  | 0xB => .bit_1_E
  | 0xC => .bit_1_H
  | 0xD => .bit_1_L
  | 0xE => .bit_1_atHL
  | _ => .bit_1_A

/-- Row 5x of the extended table (R126). -/
def extendedRow5 (col : Nat) : Instr :=
  match col with
  | 0x0 => .bit_2_B
  | 0x1 => .bit_2_C
  | 0x2 => .bit_2_D
  | 0x3 => .bit_2_E
  | 0x4 => .bit_2_H
  | 0x5 => .bit_2_L
  | 0x6 => .bit_2_atHL
  | 0x7 => .bit_2_A
  | 0x8 => .bit_3_B
  | 0x9 => .bit_3_C
  | 0xA => .bit_3_D
  | 0xB => .bit_3_E
  | 0xC => .bit_3_H
  | 0xD => .bit_3_L
  | 0xE => .bit_3_atHL
  | _ => .bit_3_A

/-- Row 6x of the extended table (R126). -/
def extendedRow6 (col : Nat) : Instr :=
  match col with
  | 0x0 => .bit_4_B
  | 0x1 => .bit_4_C
  | 0x2 => .bit_4_D
  | 0x3 => .bit_4_E
  | 0x4 => .bit_4_H
  | 0x5 => .bit_4_L
  | 0x6 => .bit_4_atHL
  | 0x7 => .bit_4_A
  | 0x8 => .bit_5_B
  | 0x9 => .bit_5_C
  | 0xA => .bit_5_D
  | 0xB => .bit_5_E
  | 0xC => .bit_5_H
  | 0xD => .bit_5_L
  | 0xE => .bit_5_atHL
  | _ => .bit_5_A

/-- Row 7x of the extended table (R126). -/
def extendedRow7 (col : Nat) : Instr :=
  match col with
  | 0x0 => .bit_6_B
  | 0x1 => .bit_6_C
  | 0x2 => .bit_6_D
  | 0x3 => .bit_6_E
  | 0x4 => .bit_6_H
  | 0x5 => .bit_6_L
  | 0x6 => .bit_6_atHL
  | 0x7 => .bit_6_A
  | 0x8 => .bit_7_B
  | 0x9 => .bit_7_C
  | 0xA => .bit_7_D
  | 0xB => .bit_7_E
  | 0xC => .bit_7_H
  | 0xD => .bit_7_L
  | 0xE => .bit_7_atHL
  | _ => .bit_7_A

/-- Row 8x of the extended table (R126). -/
def extendedRow8 (col : Nat) : Instr :=
  match col with
  | 0x0 => .res_0_B
  | 0x1 => .res_0_C
  | 0x2 => .res_0_D
  | 0x3 => .res_0_E
  | 0x4 => .res_0_H
  | 0x5 => .res_0_L
  | 0x6 => .res_0_atHL
  | 0x7 => .res_0_A
  | 0x8 => .res_1_B
  | 0x9 => .res_1_C
  | 0xA => .res_1_D
  | 0xB => .res_1_E
  | 0xC => .res_1_H
  | 0xD => .res_1_L
  | 0xE => .res_1_atHL
  | _ => .res_1_A

/-- Row 9x of the extended table (R126). -/
def extendedRow9 (col : Nat) : Instr :=
  match col with
  | 0x0 => .res_2_B
  | 0x1 => .res_2_C
  | 0x2 => .res_2_D
  | 0x3 => .res_2_E
  | 0x4 => .res_2_H
  | 0x5 => .res_2_L
  | 0x6 => .res_2_atHL
  | 0x7 => .res_2_A
  | 0x8 => .res_3_B
  | 0x9 => .res_3_C
  | 0xA => .res_3_D
  | 0xB => .res_3_E
  | 0xC => .res_3_H
  | 0xD => .res_3_L
  | 0xE => .res_3_atHL
  | _ => .res_3_A

/-- Row Ax of the extended table (R126). -/
def extendedRowA (col : Nat) : Instr :=
  match col with
  | 0x0 => .res_4_B
  | 0x1 => .res_4_C
  | 0x2 => .res_4_D
  | 0x3 => .res_4_E
  | 0x4 => .res_4_H
  | 0x5 => .res_4_L
  | 0x6 => .res_4_atHL
  | 0x7 => .res_4_A
  | 0x8 => .res_5_B
  | 0x9 => .res_5_C
  | 0xA => .res_5_D
  | 0xB => .res_5_E
  | 0xC => .res_5_H
  | 0xD => .res_5_L
  | 0xE => .res_5_atHL
  | _ => .res_5_A

/-- Row Bx of the extended table (R126). -/
def extendedRowB (col : Nat) : Instr :=
  match col with
  | 0x0 => .res_6_B
  | 0x1 => .res_6_C
  | 0x2 => .res_6_D
  | 0x3 => .res_6_E
  | 0x4 => .res_6_H
  | 0x5 => .res_6_L
  | 0x6 => .res_6_atHL
  | 0x7 => .res_6_A
  | 0x8 => .res_7_B
  | 0x9 => .res_7_C
  | 0xA => .res_7_D
  | 0xB => .res_7_E
  | 0xC => .res_7_H
  | 0xD => .res_7_L
  | 0xE => .res_7_atHL
  | _ => .res_7_A

/-- Row Cx of the extended table (R126). -/
def extendedRowC (col : Nat) : Instr :=
  match col with
  | 0x0 => .set_0_B
  | 0x1 => .set_0_C
  | 0x2 => .set_0_D
  | 0x3 => .set_0_E
  | 0x4 => .set_0_H
  | 0x5 => .set_0_L
  | 0x6 => .set_0_atHL
  | 0x7 => .set_0_A
  | 0x8 => .set_1_B
  | 0x9 => .set_1_C
  | 0xA => .set_1_D
  | 0xB => .set_1_E
  | 0xC => .set_1_H
  | 0xD => .set_1_L
  | 0xE => .set_1_atHL
  | _ => .set_1_A

/-- Row Dx of the extended table (R126). -/
def extendedRowD (col : Nat) : Instr :=
  match col with
  | 0x0 => .set_2_B
  | 0x1 => .set_2_C
  | 0x2 => .set_2_D
  | 0x3 => .set_2_E
  | 0x4 => .set_2_H
  | 0x5 => .set_2_L
  | 0x6 => .set_2_atHL
  | 0x7 => .set_2_A
  | 0x8 => .set_3_B
  | 0x9 => .set_3_C
  | 0xA => .set_3_D
  | 0xB => .set_3_E
  | 0xC => .set_3_H
  | 0xD => .set_3_L
  | 0xE => .set_3_atHL
  | _ => .set_3_A

/-- Row Ex of the extended table (R126). -/
def extendedRowE (col : Nat) : Instr :=
  match col with
  | 0x0 => .set_4_B
  | 0x1 => .set_4_C
  | 0x2 => .set_4_D
  | 0x3 => .set_4_E
  | 0x4 => .set_4_H
  | 0x5 => .set_4_L
  | 0x6 => .set_4_atHL
  | 0x7 => .set_4_A
  | 0x8 => .set_5_B
  | 0x9 => .set_5_C
  | 0xA => .set_5_D
  | 0xB => .set_5_E
  | 0xC => .set_5_H
  | 0xD => .set_5_L
  | 0xE => .set_5_atHL
  | _ => .set_5_A

/-- Row Fx of the extended table (R126). -/
def extendedRowF (col : Nat) : Instr :=
  match col with
  | 0x0 => .set_6_B
  | 0x1 => .set_6_C
  | 0x2 => .set_6_D
  | 0x3 => .set_6_E
  | 0x4 => .set_6_H
  | 0x5 => .set_6_L
  | 0x6 => .set_6_atHL
  | 0x7 => .set_6_A
  | 0x8 => .set_7_B
  | 0x9 => .set_7_C
  | 0xA => .set_7_D
  | 0xB => .set_7_E
  | 0xC => .set_7_H
  | 0xD => .set_7_L
  | 0xE => .set_7_atHL
  | _ => .set_7_A

/-- The extended table (R126). -/
def decodeExtended (op : Byte) : Instr :=
  match op.toNat / 16 with
  | 0x0 => extendedRow0 (op.toNat % 16)
  | 0x1 => extendedRow1 (op.toNat % 16)
  | 0x2 => extendedRow2 (op.toNat % 16)
  | 0x3 => extendedRow3 (op.toNat % 16)
  | 0x4 => extendedRow4 (op.toNat % 16)
  | 0x5 => extendedRow5 (op.toNat % 16)
  | 0x6 => extendedRow6 (op.toNat % 16)
  | 0x7 => extendedRow7 (op.toNat % 16)
  | 0x8 => extendedRow8 (op.toNat % 16)
  | 0x9 => extendedRow9 (op.toNat % 16)
  | 0xA => extendedRowA (op.toNat % 16)
  | 0xB => extendedRowB (op.toNat % 16)
  | 0xC => extendedRowC (op.toNat % 16)
  | 0xD => extendedRowD (op.toNat % 16)
  | 0xE => extendedRowE (op.toNat % 16)
  | _ => extendedRowF (op.toNat % 16)

/-- The instruction that three bytes begin, as the step reads it: the prefix selects the extended table (R128). The bytes past
the instruction's length are not looked at. -/
def decodeBytes (op b1 b2 : Byte) : Instr :=
  if op = 0xCB then decodeExtended b1 else decodePrimary op b1 (mkWord b2 b1)

/-- THE DECODER: the instruction that a list of bytes begins, with the bytes after it. A prefix with nothing after it is the
primary table's row `PREFIX CB` (R123, R275; log 11). -/
def decode (bytes : List Byte) : Except DecodeError (Instr × List Byte) :=
  match bytes with
  | [] => .error .noBytes
  | op :: rest =>
    if op = 0xCB then
      match rest with
      | [] => .ok (.prefix_CB, [])
      | op2 :: more => .ok (decodeExtended op2, more)
    else if instrLength op = 1 then .ok (decodePrimary op 0 0, rest)
    else if instrLength op = 2 then
      match rest with
      | n :: more => .ok (decodePrimary op n 0, more)
      | [] => .error (.truncated op)
    else
      match rest with
      | lo :: hi :: more => .ok (decodePrimary op 0 (mkWord hi lo), more)
      | _ => .error (.truncated op)

/-- THE ENCODER: the bytes of an instruction in ascending address order (the `encoding` key of the table, R131). -/
def encode (i : Instr) : List Byte :=
  match i with
  | .nop => [0x00]
  | .ld_BC_nn nn => [0x01, loByte nn, hiByte nn]
  | .ld_atBC_A => [0x02]
  | .inc_BC => [0x03]
  | .inc_B => [0x04]
  | .dec_B => [0x05]
  | .ld_B_n n => [0x06, n]
  | .rlca => [0x07]
  | .ld_atNN_SP nn => [0x08, loByte nn, hiByte nn]
  | .add_HL_BC => [0x09]
  | .ld_A_atBC => [0x0A]
  | .dec_BC => [0x0B]
  | .inc_C => [0x0C]
  | .dec_C => [0x0D]
  | .ld_C_n n => [0x0E, n]
  | .rrca => [0x0F]
  | .stop x => [0x10, x]
  | .ld_DE_nn nn => [0x11, loByte nn, hiByte nn]
  | .ld_atDE_A => [0x12]
  | .inc_DE => [0x13]
  | .inc_D => [0x14]
  | .dec_D => [0x15]
  | .ld_D_n n => [0x16, n]
  | .rla => [0x17]
  | .jr_e e => [0x18, e]
  | .add_HL_DE => [0x19]
  | .ld_A_atDE => [0x1A]
  | .dec_DE => [0x1B]
  | .inc_E => [0x1C]
  | .dec_E => [0x1D]
  | .ld_E_n n => [0x1E, n]
  | .rra => [0x1F]
  | .jr_NZ_e e => [0x20, e]
  | .ld_HL_nn nn => [0x21, loByte nn, hiByte nn]
  | .ld_atHLinc_A => [0x22]
  | .inc_HL => [0x23]
  | .inc_H => [0x24]
  | .dec_H => [0x25]
  | .ld_H_n n => [0x26, n]
  | .daa => [0x27]
  | .jr_Z_e e => [0x28, e]
  | .add_HL_HL => [0x29]
  | .ld_A_atHLinc => [0x2A]
  | .dec_HL => [0x2B]
  | .inc_L => [0x2C]
  | .dec_L => [0x2D]
  | .ld_L_n n => [0x2E, n]
  | .cpl => [0x2F]
  | .jr_NC_e e => [0x30, e]
  | .ld_SP_nn nn => [0x31, loByte nn, hiByte nn]
  | .ld_atHLdec_A => [0x32]
  | .inc_SP => [0x33]
  | .inc_atHL => [0x34]
  | .dec_atHL => [0x35]
  | .ld_atHL_n n => [0x36, n]
  | .scf => [0x37]
  | .jr_C_e e => [0x38, e]
  | .add_HL_SP => [0x39]
  | .ld_A_atHLdec => [0x3A]
  | .dec_SP => [0x3B]
  | .inc_A => [0x3C]
  | .dec_A => [0x3D]
  | .ld_A_n n => [0x3E, n]
  | .ccf => [0x3F]
  | .ld_B_B => [0x40]
  | .ld_B_C => [0x41]
  | .ld_B_D => [0x42]
  | .ld_B_E => [0x43]
  | .ld_B_H => [0x44]
  | .ld_B_L => [0x45]
  | .ld_B_atHL => [0x46]
  | .ld_B_A => [0x47]
  | .ld_C_B => [0x48]
  | .ld_C_C => [0x49]
  | .ld_C_D => [0x4A]
  | .ld_C_E => [0x4B]
  | .ld_C_H => [0x4C]
  | .ld_C_L => [0x4D]
  | .ld_C_atHL => [0x4E]
  | .ld_C_A => [0x4F]
  | .ld_D_B => [0x50]
  | .ld_D_C => [0x51]
  | .ld_D_D => [0x52]
  | .ld_D_E => [0x53]
  | .ld_D_H => [0x54]
  | .ld_D_L => [0x55]
  | .ld_D_atHL => [0x56]
  | .ld_D_A => [0x57]
  | .ld_E_B => [0x58]
  | .ld_E_C => [0x59]
  | .ld_E_D => [0x5A]
  | .ld_E_E => [0x5B]
  | .ld_E_H => [0x5C]
  | .ld_E_L => [0x5D]
  | .ld_E_atHL => [0x5E]
  | .ld_E_A => [0x5F]
  | .ld_H_B => [0x60]
  | .ld_H_C => [0x61]
  | .ld_H_D => [0x62]
  | .ld_H_E => [0x63]
  | .ld_H_H => [0x64]
  | .ld_H_L => [0x65]
  | .ld_H_atHL => [0x66]
  | .ld_H_A => [0x67]
  | .ld_L_B => [0x68]
  | .ld_L_C => [0x69]
  | .ld_L_D => [0x6A]
  | .ld_L_E => [0x6B]
  | .ld_L_H => [0x6C]
  | .ld_L_L => [0x6D]
  | .ld_L_atHL => [0x6E]
  | .ld_L_A => [0x6F]
  | .ld_atHL_B => [0x70]
  | .ld_atHL_C => [0x71]
  | .ld_atHL_D => [0x72]
  | .ld_atHL_E => [0x73]
  | .ld_atHL_H => [0x74]
  | .ld_atHL_L => [0x75]
  | .halt => [0x76]
  | .ld_atHL_A => [0x77]
  | .ld_A_B => [0x78]
  | .ld_A_C => [0x79]
  | .ld_A_D => [0x7A]
  | .ld_A_E => [0x7B]
  | .ld_A_H => [0x7C]
  | .ld_A_L => [0x7D]
  | .ld_A_atHL => [0x7E]
  | .ld_A_A => [0x7F]
  | .add_B => [0x80]
  | .add_C => [0x81]
  | .add_D => [0x82]
  | .add_E => [0x83]
  | .add_H => [0x84]
  | .add_L => [0x85]
  | .add_atHL => [0x86]
  | .add_A => [0x87]
  | .adc_B => [0x88]
  | .adc_C => [0x89]
  | .adc_D => [0x8A]
  | .adc_E => [0x8B]
  | .adc_H => [0x8C]
  | .adc_L => [0x8D]
  | .adc_atHL => [0x8E]
  | .adc_A => [0x8F]
  | .sub_B => [0x90]
  | .sub_C => [0x91]
  | .sub_D => [0x92]
  | .sub_E => [0x93]
  | .sub_H => [0x94]
  | .sub_L => [0x95]
  | .sub_atHL => [0x96]
  | .sub_A => [0x97]
  | .sbc_B => [0x98]
  | .sbc_C => [0x99]
  | .sbc_D => [0x9A]
  | .sbc_E => [0x9B]
  | .sbc_H => [0x9C]
  | .sbc_L => [0x9D]
  | .sbc_atHL => [0x9E]
  | .sbc_A => [0x9F]
  | .and_B => [0xA0]
  | .and_C => [0xA1]
  | .and_D => [0xA2]
  | .and_E => [0xA3]
  | .and_H => [0xA4]
  | .and_L => [0xA5]
  | .and_atHL => [0xA6]
  | .and_A => [0xA7]
  | .xor_B => [0xA8]
  | .xor_C => [0xA9]
  | .xor_D => [0xAA]
  | .xor_E => [0xAB]
  | .xor_H => [0xAC]
  | .xor_L => [0xAD]
  | .xor_atHL => [0xAE]
  | .xor_A => [0xAF]
  | .or_B => [0xB0]
  | .or_C => [0xB1]
  | .or_D => [0xB2]
  | .or_E => [0xB3]
  | .or_H => [0xB4]
  | .or_L => [0xB5]
  | .or_atHL => [0xB6]
  | .or_A => [0xB7]
  | .cp_B => [0xB8]
  | .cp_C => [0xB9]
  | .cp_D => [0xBA]
  | .cp_E => [0xBB]
  | .cp_H => [0xBC]
  | .cp_L => [0xBD]
  | .cp_atHL => [0xBE]
  | .cp_A => [0xBF]
  | .ret_NZ => [0xC0]
  | .pop_BC => [0xC1]
  | .jp_NZ_nn nn => [0xC2, loByte nn, hiByte nn]
  | .jp_nn nn => [0xC3, loByte nn, hiByte nn]
  | .call_NZ_nn nn => [0xC4, loByte nn, hiByte nn]
  | .push_BC => [0xC5]
  | .add_n n => [0xC6, n]
  | .rst_00 => [0xC7]
  | .ret_Z => [0xC8]
  | .ret => [0xC9]
  | .jp_Z_nn nn => [0xCA, loByte nn, hiByte nn]
  | .prefix_CB => [0xCB]
  | .call_Z_nn nn => [0xCC, loByte nn, hiByte nn]
  | .call_nn nn => [0xCD, loByte nn, hiByte nn]
  | .adc_n n => [0xCE, n]
  | .rst_08 => [0xCF]
  | .ret_NC => [0xD0]
  | .pop_DE => [0xD1]
  | .jp_NC_nn nn => [0xD2, loByte nn, hiByte nn]
  | .undef_D3 => [0xD3]
  | .call_NC_nn nn => [0xD4, loByte nn, hiByte nn]
  | .push_DE => [0xD5]
  | .sub_n n => [0xD6, n]
  | .rst_10 => [0xD7]
  | .ret_C => [0xD8]
  | .reti => [0xD9]
  | .jp_C_nn nn => [0xDA, loByte nn, hiByte nn]
  | .undef_DB => [0xDB]
  | .call_C_nn nn => [0xDC, loByte nn, hiByte nn]
  | .undef_DD => [0xDD]
  | .sbc_n n => [0xDE, n]
  | .rst_18 => [0xDF]
  | .ldh_atN_A n => [0xE0, n]
  | .pop_HL => [0xE1]
  | .ld_atC_A => [0xE2]
  | .undef_E3 => [0xE3]
  | .undef_E4 => [0xE4]
  | .push_HL => [0xE5]
  | .and_n n => [0xE6, n]
  | .rst_20 => [0xE7]
  | .add_SP_e e => [0xE8, e]
  | .jp_HL => [0xE9]
  | .ld_atNN_A nn => [0xEA, loByte nn, hiByte nn]
  | .undef_EB => [0xEB]
  | .undef_EC => [0xEC]
  | .undef_ED => [0xED]
  | .xor_n n => [0xEE, n]
  | .rst_28 => [0xEF]
  | .ldh_A_atN n => [0xF0, n]
  | .pop_AF => [0xF1]
  | .ld_A_atC => [0xF2]
  | .di => [0xF3]
  | .undef_F4 => [0xF4]
  | .push_AF => [0xF5]
  | .or_n n => [0xF6, n]
  | .rst_30 => [0xF7]
  | .ld_HL_SPe e => [0xF8, e]
  | .ld_SP_HL => [0xF9]
  | .ld_A_atNN nn => [0xFA, loByte nn, hiByte nn]
  | .ei => [0xFB]
  | .undef_FC => [0xFC]
  | .undef_FD => [0xFD]
  | .cp_n n => [0xFE, n]
  | .rst_38 => [0xFF]
  | .rlc_B => [0xCB, 0x00]
  | .rlc_C => [0xCB, 0x01]
  | .rlc_D => [0xCB, 0x02]
  | .rlc_E => [0xCB, 0x03]
  | .rlc_H => [0xCB, 0x04]
  | .rlc_L => [0xCB, 0x05]
  | .rlc_atHL => [0xCB, 0x06]
  | .rlc_A => [0xCB, 0x07]
  | .rrc_B => [0xCB, 0x08]
  | .rrc_C => [0xCB, 0x09]
  | .rrc_D => [0xCB, 0x0A]
  | .rrc_E => [0xCB, 0x0B]
  | .rrc_H => [0xCB, 0x0C]
  | .rrc_L => [0xCB, 0x0D]
  | .rrc_atHL => [0xCB, 0x0E]
  | .rrc_A => [0xCB, 0x0F]
  | .rl_B => [0xCB, 0x10]
  | .rl_C => [0xCB, 0x11]
  | .rl_D => [0xCB, 0x12]
  | .rl_E => [0xCB, 0x13]
  | .rl_H => [0xCB, 0x14]
  | .rl_L => [0xCB, 0x15]
  | .rl_atHL => [0xCB, 0x16]
  | .rl_A => [0xCB, 0x17]
  | .rr_B => [0xCB, 0x18]
  | .rr_C => [0xCB, 0x19]
  | .rr_D => [0xCB, 0x1A]
  | .rr_E => [0xCB, 0x1B]
  | .rr_H => [0xCB, 0x1C]
  | .rr_L => [0xCB, 0x1D]
  | .rr_atHL => [0xCB, 0x1E]
  | .rr_A => [0xCB, 0x1F]
  | .sla_B => [0xCB, 0x20]
  | .sla_C => [0xCB, 0x21]
  | .sla_D => [0xCB, 0x22]
  | .sla_E => [0xCB, 0x23]
  | .sla_H => [0xCB, 0x24]
  | .sla_L => [0xCB, 0x25]
  | .sla_atHL => [0xCB, 0x26]
  | .sla_A => [0xCB, 0x27]
  | .sra_B => [0xCB, 0x28]
  | .sra_C => [0xCB, 0x29]
  | .sra_D => [0xCB, 0x2A]
  | .sra_E => [0xCB, 0x2B]
  | .sra_H => [0xCB, 0x2C]
  | .sra_L => [0xCB, 0x2D]
  | .sra_atHL => [0xCB, 0x2E]
  | .sra_A => [0xCB, 0x2F]
  | .swap_B => [0xCB, 0x30]
  | .swap_C => [0xCB, 0x31]
  | .swap_D => [0xCB, 0x32]
  | .swap_E => [0xCB, 0x33]
  | .swap_H => [0xCB, 0x34]
  | .swap_L => [0xCB, 0x35]
  | .swap_atHL => [0xCB, 0x36]
  | .swap_A => [0xCB, 0x37]
  | .srl_B => [0xCB, 0x38]
  | .srl_C => [0xCB, 0x39]
  | .srl_D => [0xCB, 0x3A]
  | .srl_E => [0xCB, 0x3B]
  | .srl_H => [0xCB, 0x3C]
  | .srl_L => [0xCB, 0x3D]
  | .srl_atHL => [0xCB, 0x3E]
  | .srl_A => [0xCB, 0x3F]
  | .bit_0_B => [0xCB, 0x40]
  | .bit_0_C => [0xCB, 0x41]
  | .bit_0_D => [0xCB, 0x42]
  | .bit_0_E => [0xCB, 0x43]
  | .bit_0_H => [0xCB, 0x44]
  | .bit_0_L => [0xCB, 0x45]
  | .bit_0_atHL => [0xCB, 0x46]
  | .bit_0_A => [0xCB, 0x47]
  | .bit_1_B => [0xCB, 0x48]
  | .bit_1_C => [0xCB, 0x49]
  | .bit_1_D => [0xCB, 0x4A]
  | .bit_1_E => [0xCB, 0x4B]
  | .bit_1_H => [0xCB, 0x4C]
  | .bit_1_L => [0xCB, 0x4D]
  | .bit_1_atHL => [0xCB, 0x4E]
  | .bit_1_A => [0xCB, 0x4F]
  | .bit_2_B => [0xCB, 0x50]
  | .bit_2_C => [0xCB, 0x51]
  | .bit_2_D => [0xCB, 0x52]
  | .bit_2_E => [0xCB, 0x53]
  | .bit_2_H => [0xCB, 0x54]
  | .bit_2_L => [0xCB, 0x55]
  | .bit_2_atHL => [0xCB, 0x56]
  | .bit_2_A => [0xCB, 0x57]
  | .bit_3_B => [0xCB, 0x58]
  | .bit_3_C => [0xCB, 0x59]
  | .bit_3_D => [0xCB, 0x5A]
  | .bit_3_E => [0xCB, 0x5B]
  | .bit_3_H => [0xCB, 0x5C]
  | .bit_3_L => [0xCB, 0x5D]
  | .bit_3_atHL => [0xCB, 0x5E]
  | .bit_3_A => [0xCB, 0x5F]
  | .bit_4_B => [0xCB, 0x60]
  | .bit_4_C => [0xCB, 0x61]
  | .bit_4_D => [0xCB, 0x62]
  | .bit_4_E => [0xCB, 0x63]
  | .bit_4_H => [0xCB, 0x64]
  | .bit_4_L => [0xCB, 0x65]
  | .bit_4_atHL => [0xCB, 0x66]
  | .bit_4_A => [0xCB, 0x67]
  | .bit_5_B => [0xCB, 0x68]
  | .bit_5_C => [0xCB, 0x69]
  | .bit_5_D => [0xCB, 0x6A]
  | .bit_5_E => [0xCB, 0x6B]
  | .bit_5_H => [0xCB, 0x6C]
  | .bit_5_L => [0xCB, 0x6D]
  | .bit_5_atHL => [0xCB, 0x6E]
  | .bit_5_A => [0xCB, 0x6F]
  | .bit_6_B => [0xCB, 0x70]
  | .bit_6_C => [0xCB, 0x71]
  | .bit_6_D => [0xCB, 0x72]
  | .bit_6_E => [0xCB, 0x73]
  | .bit_6_H => [0xCB, 0x74]
  | .bit_6_L => [0xCB, 0x75]
  | .bit_6_atHL => [0xCB, 0x76]
  | .bit_6_A => [0xCB, 0x77]
  | .bit_7_B => [0xCB, 0x78]
  | .bit_7_C => [0xCB, 0x79]
  | .bit_7_D => [0xCB, 0x7A]
  | .bit_7_E => [0xCB, 0x7B]
  | .bit_7_H => [0xCB, 0x7C]
  | .bit_7_L => [0xCB, 0x7D]
  | .bit_7_atHL => [0xCB, 0x7E]
  | .bit_7_A => [0xCB, 0x7F]
  | .res_0_B => [0xCB, 0x80]
  | .res_0_C => [0xCB, 0x81]
  | .res_0_D => [0xCB, 0x82]
  | .res_0_E => [0xCB, 0x83]
  | .res_0_H => [0xCB, 0x84]
  | .res_0_L => [0xCB, 0x85]
  | .res_0_atHL => [0xCB, 0x86]
  | .res_0_A => [0xCB, 0x87]
  | .res_1_B => [0xCB, 0x88]
  | .res_1_C => [0xCB, 0x89]
  | .res_1_D => [0xCB, 0x8A]
  | .res_1_E => [0xCB, 0x8B]
  | .res_1_H => [0xCB, 0x8C]
  | .res_1_L => [0xCB, 0x8D]
  | .res_1_atHL => [0xCB, 0x8E]
  | .res_1_A => [0xCB, 0x8F]
  | .res_2_B => [0xCB, 0x90]
  | .res_2_C => [0xCB, 0x91]
  | .res_2_D => [0xCB, 0x92]
  | .res_2_E => [0xCB, 0x93]
  | .res_2_H => [0xCB, 0x94]
  | .res_2_L => [0xCB, 0x95]
  | .res_2_atHL => [0xCB, 0x96]
  | .res_2_A => [0xCB, 0x97]
  | .res_3_B => [0xCB, 0x98]
  | .res_3_C => [0xCB, 0x99]
  | .res_3_D => [0xCB, 0x9A]
  | .res_3_E => [0xCB, 0x9B]
  | .res_3_H => [0xCB, 0x9C]
  | .res_3_L => [0xCB, 0x9D]
  | .res_3_atHL => [0xCB, 0x9E]
  | .res_3_A => [0xCB, 0x9F]
  | .res_4_B => [0xCB, 0xA0]
  | .res_4_C => [0xCB, 0xA1]
  | .res_4_D => [0xCB, 0xA2]
  | .res_4_E => [0xCB, 0xA3]
  | .res_4_H => [0xCB, 0xA4]
  | .res_4_L => [0xCB, 0xA5]
  | .res_4_atHL => [0xCB, 0xA6]
  | .res_4_A => [0xCB, 0xA7]
  | .res_5_B => [0xCB, 0xA8]
  | .res_5_C => [0xCB, 0xA9]
  | .res_5_D => [0xCB, 0xAA]
  | .res_5_E => [0xCB, 0xAB]
  | .res_5_H => [0xCB, 0xAC]
  | .res_5_L => [0xCB, 0xAD]
  | .res_5_atHL => [0xCB, 0xAE]
  | .res_5_A => [0xCB, 0xAF]
  | .res_6_B => [0xCB, 0xB0]
  | .res_6_C => [0xCB, 0xB1]
  | .res_6_D => [0xCB, 0xB2]
  | .res_6_E => [0xCB, 0xB3]
  | .res_6_H => [0xCB, 0xB4]
  | .res_6_L => [0xCB, 0xB5]
  | .res_6_atHL => [0xCB, 0xB6]
  | .res_6_A => [0xCB, 0xB7]
  | .res_7_B => [0xCB, 0xB8]
  | .res_7_C => [0xCB, 0xB9]
  | .res_7_D => [0xCB, 0xBA]
  | .res_7_E => [0xCB, 0xBB]
  | .res_7_H => [0xCB, 0xBC]
  | .res_7_L => [0xCB, 0xBD]
  | .res_7_atHL => [0xCB, 0xBE]
  | .res_7_A => [0xCB, 0xBF]
  | .set_0_B => [0xCB, 0xC0]
  | .set_0_C => [0xCB, 0xC1]
  | .set_0_D => [0xCB, 0xC2]
  | .set_0_E => [0xCB, 0xC3]
  | .set_0_H => [0xCB, 0xC4]
  | .set_0_L => [0xCB, 0xC5]
  | .set_0_atHL => [0xCB, 0xC6]
  | .set_0_A => [0xCB, 0xC7]
  | .set_1_B => [0xCB, 0xC8]
  | .set_1_C => [0xCB, 0xC9]
  | .set_1_D => [0xCB, 0xCA]
  | .set_1_E => [0xCB, 0xCB]
  | .set_1_H => [0xCB, 0xCC]
  | .set_1_L => [0xCB, 0xCD]
  | .set_1_atHL => [0xCB, 0xCE]
  | .set_1_A => [0xCB, 0xCF]
  | .set_2_B => [0xCB, 0xD0]
  | .set_2_C => [0xCB, 0xD1]
  | .set_2_D => [0xCB, 0xD2]
  | .set_2_E => [0xCB, 0xD3]
  | .set_2_H => [0xCB, 0xD4]
  | .set_2_L => [0xCB, 0xD5]
  | .set_2_atHL => [0xCB, 0xD6]
  | .set_2_A => [0xCB, 0xD7]
  | .set_3_B => [0xCB, 0xD8]
  | .set_3_C => [0xCB, 0xD9]
  | .set_3_D => [0xCB, 0xDA]
  | .set_3_E => [0xCB, 0xDB]
  | .set_3_H => [0xCB, 0xDC]
  | .set_3_L => [0xCB, 0xDD]
  | .set_3_atHL => [0xCB, 0xDE]
  | .set_3_A => [0xCB, 0xDF]
  | .set_4_B => [0xCB, 0xE0]
  | .set_4_C => [0xCB, 0xE1]
  | .set_4_D => [0xCB, 0xE2]
  | .set_4_E => [0xCB, 0xE3]
  | .set_4_H => [0xCB, 0xE4]
  | .set_4_L => [0xCB, 0xE5]
  | .set_4_atHL => [0xCB, 0xE6]
  | .set_4_A => [0xCB, 0xE7]
  | .set_5_B => [0xCB, 0xE8]
  | .set_5_C => [0xCB, 0xE9]
  | .set_5_D => [0xCB, 0xEA]
  | .set_5_E => [0xCB, 0xEB]
  | .set_5_H => [0xCB, 0xEC]
  | .set_5_L => [0xCB, 0xED]
  | .set_5_atHL => [0xCB, 0xEE]
  | .set_5_A => [0xCB, 0xEF]
  | .set_6_B => [0xCB, 0xF0]
  | .set_6_C => [0xCB, 0xF1]
  | .set_6_D => [0xCB, 0xF2]
  | .set_6_E => [0xCB, 0xF3]
  | .set_6_H => [0xCB, 0xF4]
  | .set_6_L => [0xCB, 0xF5]
  | .set_6_atHL => [0xCB, 0xF6]
  | .set_6_A => [0xCB, 0xF7]
  | .set_7_B => [0xCB, 0xF8]
  | .set_7_C => [0xCB, 0xF9]
  | .set_7_D => [0xCB, 0xFA]
  | .set_7_E => [0xCB, 0xFB]
  | .set_7_H => [0xCB, 0xFC]
  | .set_7_L => [0xCB, 0xFD]
  | .set_7_atHL => [0xCB, 0xFE]
  | .set_7_A => [0xCB, 0xFF]

/-- The bytes of a word of the opcode table, in ascending address order. The table numbers a primary row over its first byte,
later bytes counting on from bit 8, and an extended row as `{first byte, second byte}`, the prefix in bits 15:8 (R131; log 12). -/
def tableBytes (nbits w : Nat) : List Byte :=
  if nbits = 16 ∧ w / 256 % 256 = 0xCB then [0xCB, BitVec.ofNat 8 w]
  else (List.range (nbits / 8)).map fun k => BitVec.ofNat 8 (w / 256 ^ k)

/-- Those bytes with the operand bytes that the table gives no bits, all zero, up to the row's length (R110). -/
def paddedTableBytes (nbits w : Nat) : List Byte :=
  match tableBytes nbits w with
  | [] => []
  | op :: rest => if op = 0xCB then op :: rest else (op :: rest) ++ List.replicate (instrLength op - (rest.length + 1)) 0

/-- The instruction the decoder reads from a word of the opcode table. -/
def decodeTableWord (nbits w : Nat) : Option Instr :=
  match decode (paddedTableBytes nbits w) with
  | .ok (i, _) => some i
  | .error _ => none

end Sys2Proof
end

