-- ==== Sys2Proof/Machine/Cycles.lean ====
section
/-! DEFINITION. The decided parameters of R9, kept under their names, and the cycle table CYCLES (R489, the `cycles` key of
opcode_table.json) by instruction form. A cost that depends on the operand is written where the form's meaning is. -/

namespace Sys2Proof.Config

/-- INT_DISPATCH_CYCLES (R9, D4). -/
def intDispatchCycles : Nat := 20

/-- IDLE_CYCLES, a step in the halted or stopped state (R9, D5, R277). -/
def idleCycles : Nat := 4

/-- UNDEF_CYCLES, an undefined opcode (R9, D6, R276). -/
def undefCycles : Nat := 4

/-- DMA_SENTINEL (R9, D16, R76). -/
def dmaSentinel : Byte := 0xFF

/-- What an address that no region covers, or an unknown register, reads as (R68, R352, R395, D14; log 7). -/
def openBus : Byte := 0xFF

/-- The all-ones byte of a gated read (R379, R380) and of cartridge RAM that is absent or disabled (R429, R430). -/
def allOnes : Byte := 0xFF

/-- LYC_CHECK_OFFSET (R9, D20, R375). -/
def lycCheckOffset : Nat := 4

/-- VBLANK_IRQ_OFFSET (R9, D20, R374). -/
def vblankIrqOffset : Nat := 4

/-- The cycle at which Draw begins (R370, R371). -/
def drawOffset : Nat := 80

/-- The cycle at which HBlank begins (R370, R371). -/
def hblankOffset : Nat := 252

/-- Ticks-of-4 of a DMA transfer (R392, D17). -/
def dmaTicks : Nat := 161

/-- The cycle table, R489. -/
def cycNop : Nat := 4
def cycHalt : Nat := 4
def cycStop : Nat := 4
def cycDi : Nat := 4
def cycEi : Nat := 4
/-- `LD r,r'` 4; `LD r,(HL)` and `LD (HL),r` 8 (R140, R142, R143). -/
def cycLd8Reg : Nat := 4
def cycLd8Mem : Nat := 8
/-- `LD r,n` 8; `LD (HL),n` 12 (R141, R144). -/
def cycLd8ImmReg : Nat := 8
def cycLd8ImmMem : Nat := 12
/-- `LD A,(rr)` and its store 8 (R145 to R148, R153 to R158); `LD A,(nn)` 16 (R149, R150); `LDH` 12 (R151, R152). -/
def cycLdAccInd : Nat := 8
def cycLdAccAbs : Nat := 16
def cycLdAccHigh : Nat := 12
/-- R170 to R175. -/
def cycLd16Imm : Nat := 12
def cycLdAbsSp : Nat := 20
def cycLdSpHl : Nat := 8
def cycPush : Nat := 16
def cycPop : Nat := 12
/-- R185: register, `(HL)`, immediate. -/
def cycAluReg : Nat := 4
def cycAluMem : Nat := 8
def cycAluImm : Nat := 8
/-- R194 to R197. -/
def cycIncReg : Nat := 4
def cycIncMem : Nat := 12
/-- `DAA`, `CPL`, `SCF`, `CCF` (R198 to R201) and the accumulator rotates (R225 to R228). -/
def cycAcc : Nat := 4
/-- R215 to R219. -/
def cycAddHl : Nat := 8
def cycInc16 : Nat := 8
def cycAddSp : Nat := 16
def cycLdHlSp : Nat := 12
/-- R240: the extended table, the prefix included. -/
def cycExtReg : Nat := 8
def cycExtMem : Nat := 16
def cycBitMem : Nat := 12
/-- R250 to R260. -/
def cycJp : Nat := 16
def cycJpNot : Nat := 12
def cycJpHl : Nat := 4
def cycJr : Nat := 12
def cycJrNot : Nat := 8
def cycCall : Nat := 24
def cycCallNot : Nat := 12
def cycRet : Nat := 16
def cycRetCond : Nat := 20
def cycRetNot : Nat := 8
def cycReti : Nat := 16
def cycRst : Nat := 16

end Sys2Proof.Config
end

