-- ==== Sys2Proof/Config.lean ====
section
/-! DEFINITION. What is fixed for the machine: the sizes of R8, and the open parameter RESET of R9 (a record of the
CPU registers after reset) with the instance that `State.reset` takes. The parameters that R9 calls decided, and the
cycle table, stand in Sys2Proof/Machine/Cycles.lean, where a later repair may mend them. -/

namespace Sys2Proof.Config

/-- Bytes of a ROM bank (R8). -/
def romBankSize : Nat := 0x4000

/-- Bytes of a cartridge RAM bank (R426). -/
def ramBankSize : Nat := 0x2000

/-- Pixels of a line (R8). -/
def screenWidth : Nat := 160

/-- Visible lines; they are the lines 0 to 143 (R8, R370). -/
def screenHeight : Nat := 144

/-- Lines of a frame (R8, R370). -/
def linesPerFrame : Nat := 154

/-- Cycles of a line (R8, R370). -/
def cyclesPerLine : Nat := 456

/-- Sprite entries of object memory (R8). -/
def spriteEntries : Nat := 40

/-- Sprites drawn on one line at most (R8, R387). -/
def spritesPerLine : Nat := 10

/-- Bytes of work RAM (R41). -/
def wramSize : Nat := 0x2000

/-- Bytes of high RAM (R41). -/
def hramSize : Nat := 127

/-- I/O register slots (R8). -/
def ioSlots : Nat := 128

/-- Bytes of video RAM (R38). -/
def vramSize : Nat := 0x2000

/-- Bytes of object memory (R38). -/
def oamSize : Nat := 160

/-- The open parameter RESET (R9, R50, D1): the CPU registers after reset. F is given by its four flags, so that
`RESET.F[3:0] = 0` holds of every value of the parameter. -/
structure ResetRegs where
  a : Byte
  flags : BitVec 4
  b : Byte
  c : Byte
  d : Byte
  e : Byte
  h : Byte
  l : Byte
  sp : Word
  pc : Word
deriving DecidableEq, Repr

/-- The instance of RESET that `State.reset` takes: the values the console's boot program leaves, which R50 (G22) offers
and does not adopt. PRESUMED (log 1), unsafe for a claim that needs one of these values. -/
def resetRegs : ResetRegs :=
  { a := 0x01, flags := 0xB, b := 0x00, c := 0x13, d := 0x00, e := 0xD8, h := 0x01, l := 0x4D,
    sp := 0xFFFE, pc := 0x0100 }

end Sys2Proof.Config
end

