-- ==== Sys2Proof/Machine/State.lean ====
section
/-! DEFINITION. Every piece of state the spec gives the machine (10_state.md, with files 61 to 64), as plain data, and the
state after reset (R50, R471). -/

namespace Sys2Proof.Machine

/-- A byte array of the block (`wram`, `rom`, ...), as the list of its cells (index, byte) that differ from 0x00, indexes
strictly rising; an index that is not listed reads 0x00 (log 2, log 3). The operations are in Machine/Memory.lean. -/
abbrev Memory := List Host.Cell

/-- The direction of an access, as an anomaly records it (R44). -/
inductive Access where
  | read
  | write
deriving DecidableEq, Repr

/-- The diagnostics of R44 and R302. They have no effect on any other state. -/
inductive Anomaly where
  /-- An undefined primary opcode was executed: the opcode and its address (R276). -/
  | unknownOpcode (op : Byte) (pc : Word)
  /-- An access to 0xFEA0..0xFEFF (R68). -/
  | unmappedAddress (addr : Word) (access : Access)
  /-- An address inside the Timer's or the PPU's range that the component does not implement (R352, R395). -/
  | unknownRegister (addr : Word)
deriving DecidableEq, Repr

/-- The CPU: register file, SP, PC (R20 to R27), interrupt and power state (R30, R31, R34, R35). -/
structure Cpu where
  a : Byte
  f : Byte
  b : Byte
  c : Byte
  d : Byte
  e : Byte
  h : Byte
  l : Byte
  sp : Word
  pc : Word
  ime : Bool
  imePending : Bool
  halted : Bool
  stopped : Bool
deriving DecidableEq, Repr

/-- The Timer (R37). -/
structure Timer where
  div16 : Word
  tima : Byte
  tma : Byte
  tac : BitVec 3
  req : Bool
deriving DecidableEq, Repr

/-- The layer that produced a pixel: the cells of `source` (R388). -/
inductive Layer where
  | none
  | bg
  | window
  | sprite
deriving DecidableEq, Repr

/-- The display controller with its DMA engine (R38, R42). `frame` and `source` hold one entry a rendered line, keyed by the
line's number, whose value lists the line's 160 cells; a line that is not listed is blank (log 19). -/
structure Ppu where
  lcdc : Byte
  stat : Byte
  scy : Byte
  scx : Byte
  ly : Byte
  lyc : Byte
  dma : Byte
  bgp : Byte
  obp0 : Byte
  obp1 : Byte
  wy : Byte
  wx : Byte
  lineCycle : Nat
  vram : Memory
  oam : Memory
  frame : List (Nat × List (BitVec 2))
  source : List (Nat × List Layer)
  frameDone : Bool
  vblankReq : Bool
  statReq : Bool
  dmaActive : Bool
  dmaSrc : Byte
  dmaTick : Nat
deriving DecidableEq, Repr

/-- The four variants of the cartridge controller (R39, R424). -/
inductive Variant where
  | romOnly
  | schemeA
  | schemeB
  | schemeC
deriving DecidableEq, Repr

/-- The cartridge (R39): `rom[b][o]` is the cell `0x4000 * b + o` of `rom`. Every variant has every selector field; a
variant's rules (R430 to R433) read and write its own only. -/
structure Cart where
  variant : Variant
  romBanks : Nat
  rom : Memory
  ramSize : Nat
  ram : Memory
  ramEnable : Bool
  romBank : BitVec 7
  ramBank : BitVec 2
  mode : Bool
  sel : BitVec 4
  rtc : Vector Byte 5
deriving DecidableEq, Repr

/-- The Joypad (R40): `buttons` is inverted, a cleared bit is a pressed button. -/
structure Joypad where
  buttons : Byte
  select : BitVec 2
  req : Bool
deriving DecidableEq, Repr

/-- The BUS and the components behind it (R41, R61). IF is `io[0x0F]` (R75). -/
structure Bus where
  cart : Cart
  ppu : Ppu
  timer : Timer
  joypad : Joypad
  wram : Memory
  hram : Memory
  io : Memory
  ie : Byte
  anomaly : List Anomaly
deriving DecidableEq, Repr

/-- What the outside gives one BOARD step: whether the consumer clears `frame_done` before it (R394), and the snapshot of the
eight buttons, bit i set when button i of R461 is pressed (R460). -/
structure StepInput where
  clearFrameDone : Bool
  pressed : Byte
deriving DecidableEq, Repr

/-- The whole machine. `cycles` is the count `c` of the CPU step (R300; the model's own field, log 6), `inputs` the inputs of
the coming steps, the next one first (log 4). -/
structure State where
  cpu : Cpu
  bus : Bus
  cycles : Nat
  inputs : List StepInput
deriving DecidableEq, Repr

/-- No fault: R301, no instruction of this hardware traps, and no other rule stops the machine. Nothing raises it. -/
inductive Fault
deriving DecidableEq, Repr

/-- Why a step has no next state. -/
inductive Refusal where
  /-- An instruction that has no meaning in the model yet, by its name in the opcode table: raised by `exec` only. Safe. -/
  | notModelled (mnemonic : String)
  /-- `PPU.run` was handed a cycle count that is no multiple of 4, which R376 says to refuse: raised by `step` only, and no
  instruction of the cycle table can cause it (U15). Safe. -/
  | cyclesNotMultipleOfFour (cycles : Nat)
deriving DecidableEq, Repr

/-- The open parameter RAM_INIT (R9, R50, D2): the contents of the RAM arrays after reset. -/
structure RamInit where
  wram : Memory
  hram : Memory
  vram : Memory
  oam : Memory
  cartRam : Memory
deriving DecidableEq, Repr

/-- The instance of RAM_INIT that `State.reset` takes: nothing listed. DESIGN CHOICE (log 2). -/
def RamInit.empty : RamInit := { wram := [], hram := [], vram := [], oam := [], cartRam := [] }

/-- The selector registers after reset (R436), around what a cartridge image fixes. -/
def Cart.atReset (variant : Variant) (romBanks : Nat) (rom : Memory) (ramSize : Nat) (ram : Memory) : Cart :=
  { variant, romBanks, rom, ramSize, ram, ramEnable := false, romBank := 1, ramBank := 0, mode := false, sel := 0,
    rtc := Vector.replicate 5 0 }

/-- The cartridge of `State.reset`: ROM-only, two banks, no RAM, no byte of the image listed. DESIGN CHOICE (log 3). -/
def Cart.blank : Cart := Cart.atReset .romOnly 2 [] 0 []

/-- The CPU after reset (R50). -/
def Cpu.atReset (r : Config.ResetRegs) : Cpu :=
  { a := r.a, f := r.flags ++ (0#4), b := r.b, c := r.c, d := r.d, e := r.e, h := r.h, l := r.l, sp := r.sp, pc := r.pc,
    ime := false, imePending := false, halted := false, stopped := false }

/-- The Timer after reset (R50). -/
def Timer.atReset : Timer := { div16 := 0, tima := 0, tma := 0, tac := 0, req := false }

/-- The PPU and its DMA engine after reset: display disabled, mode 0 (R50). -/
def Ppu.atReset (vram oam : Memory) : Ppu :=
  { lcdc := 0, stat := 0, scy := 0, scx := 0, ly := 0, lyc := 0, dma := 0, bgp := 0, obp0 := 0, obp1 := 0, wy := 0, wx := 0,
    lineCycle := 0, vram, oam, frame := [], source := [], frameDone := false, vblankReq := false, statReq := false,
    dmaActive := false, dmaSrc := 0, dmaTick := 0 }

/-- The Joypad after reset (R50). -/
def Joypad.atReset : Joypad := { buttons := 0xFF, select := 0b11, req := false }

/-- `reset(CART, RESET, RAM_INIT)` (R470) for a cartridge that construction accepted: the table of R50. -/
def State.atReset (cart : Cart) (r : Config.ResetRegs) (m : RamInit) : State :=
  { cpu := Cpu.atReset r
    bus := { cart, ppu := Ppu.atReset m.vram m.oam, timer := Timer.atReset, joypad := Joypad.atReset,
             wram := m.wram, hram := m.hram, io := [], ie := 0, anomaly := [] }
    cycles := 0
    inputs := [] }

/-- The machine right after reset (R471), with the instances of the open parameters that log 1, log 2 and log 3 name. -/
def State.reset : State := State.atReset Cart.blank Config.resetRegs RamInit.empty

end Sys2Proof.Machine
end

