-- ==== Sys2Proof/Machine/Memory.lean ====
section
/-! DEFINITION. Arrays as sparse lists in one canonical form, and the byte arrays among them (R60). -/

namespace Sys2Proof.Machine

namespace Sparse

variable {α : Type}

/-- What index `k` holds, where `d` is what an unlisted index reads as. -/
def get (d : α) : List (Nat × α) → Nat → α
  | [], _ => d
  | (i, v) :: m, k => if i = k then v else get d m k

/-- The list without any cell of index `k`. -/
def erase (m : List (Nat × α)) (k : Nat) : List (Nat × α) := m.filter fun c => c.1 ≠ k

/-- A new cell, put before the first cell of a higher index. -/
def insert (k : Nat) (v : α) : List (Nat × α) → List (Nat × α)
  | [] => [(k, v)]
  | (i, w) :: m => if k < i then (k, v) :: (i, w) :: m else (i, w) :: insert k v m

/-- The list after `v` is stored at index `k`: the value an unlisted index reads as is stored by removing the cell. -/
def set [DecidableEq α] (d : α) (m : List (Nat × α)) (k : Nat) (v : α) : List (Nat × α) :=
  if v = d then erase m k else insert k v (erase m k)

/-- The canonical form: indexes strictly rising and below `n`, and no cell that holds what an unlisted index reads as. -/
abbrev Canonical (d : α) (n : Nat) (m : List (Nat × α)) : Prop :=
  m.Pairwise (fun x y => x.1 < y.1) ∧ ∀ x ∈ m, x.1 < n ∧ x.2 ≠ d

end Sparse

namespace Memory

/-- What a byte array holds at an index; an unlisted one reads 0x00. -/
def read (m : Memory) (k : Nat) : Byte := Sparse.get 0 m k

/-- The byte array after a byte is stored. -/
def write (m : Memory) (k : Nat) (v : Byte) : Memory := Sparse.set 0 m k v

/-- The canonical form of an array of `n` bytes. -/
abbrev wf (n : Nat) (m : Memory) : Prop := Sparse.Canonical (0 : Byte) n m

/-- The cells of an array below `n`. -/
def restrict (n : Nat) (m : Memory) : Memory := m.filter fun c => c.1 < n

end Memory

end Sys2Proof.Machine
end

