-- ==== Sys2Proof/Machine/Cart.lean ====
section
/-! DEFINITION. The cartridge bank controller: construction from an image, and the four variants (63_cartridge.md). -/

namespace Sys2Proof.Machine

/-- A cartridge image: a byte string of length `len` (R421); a byte that is not listed is 0x00. -/
structure Image where
  len : Nat
  bytes : Memory
deriving DecidableEq, Repr

/-- The error kinds of a failed construction (R473). -/
inductive LoadError where
  | size
  | format
  | unsupported
deriving DecidableEq, Repr

/-- LOGO, the 48 bytes of R423. -/
def logo : List Byte :=
  [0xCE, 0xED, 0x66, 0x66, 0xCC, 0x0D, 0x00, 0x0B, 0x03, 0x73, 0x00, 0x83, 0x00, 0x0C, 0x00, 0x0D] ++
  [0x00, 0x08, 0x11, 0x1F, 0x88, 0x89, 0x00, 0x0E, 0xDC, 0xCC, 0x6E, 0xE6, 0xDD, 0xDD, 0xD9, 0x99] ++
  [0xBB, 0xBB, 0x67, 0x63, 0x6E, 0x0E, 0xEC, 0xCC, 0xDD, 0xDC, 0x99, 0x9F, 0xBB, 0xB9, 0x33, 0x3E]

/-- `variant_of` (R424). -/
def variantOf (code : Byte) : Option Variant :=
  match code.toNat with
  | 0x00 => some .romOnly
  | 0x08 => some .romOnly
  | 0x09 => some .romOnly
  | 0x01 => some .schemeA
  | 0x02 => some .schemeA
  | 0x03 => some .schemeA
  | 0x05 => some .schemeB
  | 0x06 => some .schemeB
  | 0x0F => some .schemeC
  | 0x10 => some .schemeC
  | 0x11 => some .schemeC
  | 0x12 => some .schemeC
  | 0x13 => some .schemeC
  | _ => none

/-- `banks_of` (R425). -/
def banksOf (code : Byte) : Option Nat := if code.toNat ≤ 8 then some (2 * 2 ^ code.toNat) else none

/-- Whether the cartridge type takes its RAM size from the header (R424). -/
def ramFromHeader (code : Byte) : Bool :=
  code.toNat = 0x08 || code.toNat = 0x09 || code.toNat = 0x02 || code.toNat = 0x03 || code.toNat = 0x10
    || code.toNat = 0x12 || code.toNat = 0x13

/-- `ram_of` (R426): the size for a type code and a RAM-size code. -/
def ramOf (typeCode ramCode : Byte) : Option Nat :=
  if ramFromHeader typeCode then
    match ramCode.toNat with
    | 0 => some 0
    | 1 => some 0x0800
    | 2 => some 0x2000
    | 3 => some 0x8000
    | _ => none
  else if variantOf typeCode = some .schemeB then some 512
  else some 0

/-- RAM_INIT of a cartridge RAM of `size` cells; the cells of Scheme-B are 4 bits (R432). -/
def Cart.initialRam (variant : Variant) (size : Nat) (init : Memory) : Memory :=
  match variant with
  | .schemeB => ((Memory.restrict size init).map fun c => (c.1, c.2 &&& 0x0F)).filter fun c => c.2 ≠ 0
  | _ => Memory.restrict size init

/-- Construction (R422), its checks in the rule's order; the first that fails ends it. -/
def Cart.construct (img : Image) (ramInit : Memory) : Except LoadError Cart :=
  if img.len < 0x0150 then .error .size
  else if (List.range 48).map (fun i => Memory.read img.bytes (0x0104 + i)) ≠ logo then .error .format
  else
    match variantOf (Memory.read img.bytes 0x0147) with
    | none => .error .unsupported
    | some variant =>
      match banksOf (Memory.read img.bytes 0x0148) with
      | none => .error .format
      | some banks =>
        if img.len < Config.romBankSize * banks then .error .size
        else
          match ramOf (Memory.read img.bytes 0x0147) (Memory.read img.bytes 0x0149) with
          | none => .error .format
          | some ramSize =>
            .ok (Cart.atReset variant banks (Memory.restrict (Config.romBankSize * banks) img.bytes) ramSize
              (Cart.initialRam variant ramSize ramInit))

/-- The reset event (R470, R473): the construction of the session from an image, for every value of the open parameters
RESET and RAM_INIT; a failed construction yields no state. -/
def construct (img : Image) (r : Config.ResetRegs) (m : RamInit) : Except LoadError State :=
  match Cart.construct img (Memory.restrict 0x8000 m.cartRam) with
  | .error e => .error e
  | .ok cart =>
    .ok (State.atReset cart r
      { wram := Memory.restrict Config.wramSize m.wram, hram := Memory.restrict Config.hramSize m.hram,
        vram := Memory.restrict Config.vramSize m.vram, oam := Memory.restrict Config.oamSize m.oam, cartRam := [] })

/-- The bank that the window 0x4000..0x7FFF shows (R428, R430). -/
def Cart.switchedBank (c : Cart) : Nat :=
  match c.variant with
  | .romOnly => 1
  | _ => c.romBank.toNat % c.romBanks

/-- The cell of `rom` that an address of 0x0000..0x7FFF shows (R430 to R433). -/
def Cart.romCell (c : Cart) (a : Nat) : Nat :=
  if a < 0x4000 then a else Config.romBankSize * c.switchedBank + (a - 0x4000)

/-- The cell of a banked RAM (R428): the bank wraps at the banks there are, the offset at the size. -/
def Cart.bankedCell (c : Cart) (bank a : Nat) : Nat :=
  (Config.ramBankSize * (bank % max 1 (c.ramSize / Config.ramBankSize)) + (a - 0xA000)) % c.ramSize

/-- The cell of `ram` that an address of 0xA000..0xBFFF reaches, if it reaches one (R430 to R433). -/
def Cart.ramCell (c : Cart) (a : Nat) : Option Nat :=
  match c.variant with
  | .romOnly => if c.ramSize = 0 then none else some ((a - 0xA000) % c.ramSize)
  | .schemeA => if c.ramEnable && c.ramSize ≠ 0 then some (c.bankedCell c.ramBank.toNat a) else none
  | .schemeB => if c.ramEnable then some ((a - 0xA000) % 512) else none
  | .schemeC =>
    if c.ramEnable && c.sel.toNat ≤ 3 && c.ramSize ≠ 0 then some (c.bankedCell c.sel.toNat a) else none

/-- The shadow clock register that the RAM window reaches, if it reaches one (R433). -/
def Cart.rtcCell (c : Cart) : Option Nat :=
  if c.variant = .schemeC && c.ramEnable && 8 ≤ c.sel.toNat && c.sel.toNat ≤ 0xC then some (c.sel.toNat - 8) else none

/-- A read of the RAM window (R430 to R433). -/
def Cart.readRam (c : Cart) (a : Nat) : Byte :=
  match c.rtcCell with
  | some i => c.rtc.toList.getD i Config.allOnes
  | none =>
    match c.ramCell a with
    | some k =>
      match c.variant with
      | .schemeB => 0xF0 ||| (Memory.read c.ram k &&& 0x0F)
      | _ => Memory.read c.ram k
    | none => Config.allOnes

/-- `CART.read(a)` for an address of the ROM windows or the RAM window (R420). -/
def Cart.read (c : Cart) (a : Nat) : Byte :=
  if a < 0x8000 then Memory.read c.rom (c.romCell a) else c.readRam a

/-- A write of the RAM window (R430 to R433). -/
def Cart.writeRam (c : Cart) (a : Nat) (v : Byte) : Cart :=
  match c.rtcCell with
  | some i => { c with rtc := c.rtc.setIfInBounds i v }
  | none =>
    match c.ramCell a with
    | some k =>
      match c.variant with
      | .schemeB => { c with ram := Memory.write c.ram k (v &&& 0x0F) }
      | _ => { c with ram := Memory.write c.ram k v }
    | none => c

/-- R429: the enable is set by a low nibble of 0xA and cleared by any other. -/
def Cart.setEnable (c : Cart) (v : Byte) : Cart := { c with ramEnable := decide (v &&& 0x0F = 0x0A) }

/-- R427: a bank field of 0 is replaced by 1. -/
def coerceBank (n : BitVec 7) : BitVec 7 := if n = 0 then 1 else n

/-- A selector write of Scheme-A (R431). -/
def Cart.selectA (c : Cart) (a : Nat) (v : Byte) : Cart :=
  if a < 0x2000 then c.setEnable v
  else if a < 0x4000 then
    { c with romBank := (c.romBank &&& 0x60) ||| coerceBank ((v.extractLsb' 0 5).setWidth 7) }
  else if a < 0x6000 then
    if c.mode then { c with ramBank := v.extractLsb' 0 2 }
    else { c with romBank := (v.extractLsb' 0 2) ++ (c.romBank.extractLsb' 0 5) }
  else { c with mode := v.getLsbD 0 }

/-- A selector write of Scheme-B (R432): bit 8 of the address tells the two selectors apart. -/
def Cart.selectB (c : Cart) (a : Nat) (v : Byte) : Cart :=
  if a < 0x4000 then
    if a / 256 % 2 = 0 then c.setEnable v
    else { c with romBank := coerceBank ((v.extractLsb' 0 4).setWidth 7) }
  else c

/-- A selector write of Scheme-C (R433); the latch window 0x6000..0x7FFF does nothing (R434). -/
def Cart.selectC (c : Cart) (a : Nat) (v : Byte) : Cart :=
  if a < 0x2000 then c.setEnable v
  else if a < 0x4000 then { c with romBank := coerceBank (v.extractLsb' 0 7) }
  else if a < 0x6000 then { c with sel := v.extractLsb' 0 4 }
  else c

/-- `CART.write(a, v)` (R420): a write into the ROM windows sets a selector register, one into the RAM window a cell. -/
def Cart.write (c : Cart) (a : Nat) (v : Byte) : Cart :=
  if a < 0x8000 then
    match c.variant with
    | .romOnly => c
    | .schemeA => c.selectA a v
    | .schemeB => c.selectB a v
    | .schemeC => c.selectC a v
  else c.writeRam a v

end Sys2Proof.Machine
end

