-- ==== Sys2Proof/Machine/Joypad.lean ====
section
/-! DEFINITION. The Joypad: its register and its request (64_joypad.md). -/

namespace Sys2Proof.Machine

/-- `JOYPAD.read()` (R461). -/
def Joypad.read (j : Joypad) : Byte :=
  let directions : BitVec 4 := if j.select.getLsbD 0 then 0xF else j.buttons.extractLsb' 0 4
  let actions : BitVec 4 := if j.select.getLsbD 1 then 0xF else j.buttons.extractLsb' 4 4
  (0#2) ++ j.select ++ (directions &&& actions)

/-- `JOYPAD.write(v)` (R462). -/
def Joypad.write (j : Joypad) (v : Byte) : Joypad := { j with select := v.extractLsb' 4 2 }

/-- The buttons whose group is selected (R463). -/
def Joypad.mask (j : Joypad) : Byte :=
  (if j.select.getLsbD 0 then 0x00 else 0x0F) ||| (if j.select.getLsbD 1 then 0x00 else 0xF0)

/-- `JOYPAD.refresh(pressed)` (R463). -/
def Joypad.refresh (j : Joypad) (pressed : Byte) : Joypad :=
  let new := ~~~pressed
  { j with buttons := new, req := j.req || decide ((j.buttons ^^^ new) &&& j.mask ≠ 0) }

end Sys2Proof.Machine
end

