-- ==== Sys2Proof/Machine/Render.lean ====
section
/-! DEFINITION. The compositor: what one line's pixels are, from the registers, video RAM and object memory as they stand
(62_ppu.md, section 4). -/

namespace Sys2Proof.Machine

/-- A pixel as it is composed: the colour index of background or window before the palette, the shade and the layer. -/
structure Pixel where
  bgIndex : BitVec 2
  shade : BitVec 2
  layer : Layer
deriving DecidableEq, Repr

/-- `shade(p, i) = p[2i+1 : 2i]` (R368). -/
def paletteShade (palette : Byte) (i : BitVec 2) : BitVec 2 := palette.extractLsb' (2 * i.toNat) 2

/-- The byte of video RAM at an address of the CPU's space, ungated (R381). -/
def Ppu.vramAt (p : Ppu) (a : Nat) : Byte := Memory.read p.vram (a - 0x8000)

/-- The colour index of a tile's pixel: row `r`, column `c` from the left (R390). -/
def Ppu.tilePixel (p : Ppu) (addr r c : Nat) : BitVec 2 :=
  let lo := p.vramAt (addr + 2 * r)
  let hi := p.vramAt (addr + 2 * r + 1)
  BitVec.ofBool (hi.getLsbD (7 - c)) ++ BitVec.ofBool (lo.getLsbD (7 - c))

/-- `tile_addr(t)` (R385). -/
def Ppu.tileAddr (p : Ppu) (t : Byte) : Nat :=
  if p.lcdc.getLsbD 4 then 0x8000 + 16 * t.toNat else (0x9000 + 16 * t.toInt).toNat

/-- `wxs = max(0, wx - 7)` (R369). -/
def Ppu.windowLeft (p : Ppu) : Nat := p.wx.toNat - 7

/-- `window_covers(x, y)` (R383). -/
def Ppu.windowCovers (p : Ppu) (x y : Nat) : Bool :=
  p.lcdc.getLsbD 5 && p.wy.toNat ≤ y && p.windowLeft ≤ x

/-- The base of a tile map, by the LCDC bit that selects it (R362, R384). -/
def tileMapBase (second : Bool) : Nat := if second then 0x9C00 else 0x9800

/-- The colour index of the pixel (px, py) of the map at `map` (R382, R384). -/
def Ppu.mapIndex (p : Ppu) (map px py : Nat) : BitVec 2 :=
  let t := p.vramAt (map + 32 * (py / 8) + px / 8)
  p.tilePixel (p.tileAddr t) (py % 8) (px % 8)

/-- `bg_window_pixel(x, y)` (R382). -/
def Ppu.bgWindowPixel (p : Ppu) (x y : Nat) : Pixel :=
  if p.lcdc.getLsbD 0 then
    if p.windowCovers x y then
      let i := p.mapIndex (tileMapBase (p.lcdc.getLsbD 6)) (x - p.windowLeft) (y - p.wy.toNat)
      { bgIndex := i, shade := paletteShade p.bgp i, layer := .window }
    else
      let i := p.mapIndex (tileMapBase (p.lcdc.getLsbD 3)) ((x + p.scx.toNat) % 256) ((y + p.scy.toNat) % 256)
      { bgIndex := i, shade := paletteShade p.bgp i, layer := .bg }
  else { bgIndex := 0, shade := 0, layer := .none }

/-- The height of a sprite (R362, R387). -/
def Ppu.spriteHeight (p : Ppu) : Nat := if p.lcdc.getLsbD 2 then 16 else 8

/-- The byte `k` of sprite entry `i` (R386). -/
def Ppu.spriteByte (p : Ppu) (i k : Nat) : Byte := Memory.read p.oam (4 * i + k)

/-- Whether entry `i` is on line `y` (R387). -/
def Ppu.spriteOnLine (p : Ppu) (y i : Nat) : Bool :=
  (p.spriteByte i 0).toNat ≤ y + 16 && y + 16 < (p.spriteByte i 0).toNat + p.spriteHeight

/-- The entries drawn on line `y`: the first ten matches in table order (R387). -/
def Ppu.selectSprites (p : Ppu) (y : Nat) : List Nat :=
  ((List.range Config.spriteEntries).filter (p.spriteOnLine y)).take Config.spritesPerLine

/-- The row of entry `i`'s tile that line `y` shows, after the vertical flip (R388). -/
def Ppu.spriteRow (p : Ppu) (y i : Nat) : Nat :=
  let r := y + 16 - (p.spriteByte i 0).toNat
  if (p.spriteByte i 3).getLsbD 6 then p.spriteHeight - 1 - r else r

/-- Entry `i`'s tile address: in 8 by 16 mode bit 0 of the index is ignored (R386, R388). -/
def Ppu.spriteTile (p : Ppu) (i : Nat) : Nat :=
  let t := p.spriteByte i 2
  0x8000 + 16 * (if p.spriteHeight = 16 then t &&& 0xFE else t).toNat

/-- What entry `i` does to the pixel of column `x` of line `y`: the body of R388's inner loop for the one column `c` with
`x = X - 8 + c`, if there is one. -/
def Ppu.spriteOnPixel (p : Ppu) (y x : Nat) (px : Pixel) (i : Nat) : Pixel :=
  let left := (p.spriteByte i 1).toNat
  let attr := p.spriteByte i 3
  if left ≤ x + 8 ∧ x + 8 < left + 8 then
    let c := x + 8 - left
    let idx := p.tilePixel (p.spriteTile i) (p.spriteRow y i) (if attr.getLsbD 5 then 7 - c else c)
    if idx = 0 then px
    else if px.layer = .sprite then px
    else if attr.getLsbD 7 ∧ px.bgIndex ≠ 0 then px
    else { px with shade := paletteShade (if attr.getLsbD 4 then p.obp1 else p.obp0) idx, layer := .sprite }
  else px

/-- The pixel of column `x` of line `y` (R381): the background or window, then the selected sprites in ascending order
(log 16: R388 loops over the sprites and then over their columns; no column's pixel depends on another's). -/
def Ppu.pixel (p : Ppu) (y x : Nat) : Pixel :=
  if p.lcdc.getLsbD 1 then (p.selectSprites y).foldl (p.spriteOnPixel y x) (p.bgWindowPixel x y)
  else p.bgWindowPixel x y

/-- A line of `frame` that nothing has rendered (R50). -/
def blankLine : List (BitVec 2) := List.replicate Config.screenWidth 0

/-- A line of `source` that nothing has rendered (R50). -/
def blankSource : List Layer := List.replicate Config.screenWidth .none

/-- `render_line(y)` (R381): the only writer of `frame` and `source`. -/
def Ppu.renderLine (p : Ppu) (y : Nat) : Ppu :=
  let line := (List.range Config.screenWidth).map (p.pixel y)
  { p with frame := Sparse.set blankLine p.frame y (line.map Pixel.shade)
           source := Sparse.set blankSource p.source y (line.map Pixel.layer) }

/-- `frame[y][x]` (R38, R394). -/
def Ppu.frameAt (p : Ppu) (y x : Nat) : BitVec 2 := (Sparse.get blankLine p.frame y).getD x 0

/-- `source[y][x]` (R38, R388). -/
def Ppu.sourceAt (p : Ppu) (y x : Nat) : Layer := (Sparse.get blankSource p.source y).getD x .none

end Sys2Proof.Machine
end

