-- ==== Sys2Proof/Machine/Ppu.lean ====
section
/-! DEFINITION. The display controller: registers, gating and the scanline state machine (62_ppu.md, sections 1 to 3). The
DMA engine reads through the BUS and stands in Machine/Bus.lean. -/

namespace Sys2Proof.Machine

/-- The mode, `stat[1:0]` (R363): 0 HBlank, 1 VBlank, 2 OAM-scan, 3 Draw. -/
def Ppu.mode (p : Ppu) : BitVec 2 := p.stat.extractLsb' 0 2

/-- The display-enable bit, `lcdc[7]` (R362). -/
def Ppu.enabled (p : Ppu) : Bool := p.lcdc.getLsbD 7

/-- The addresses the PPU implements (R360). -/
def Ppu.known (a : Nat) : Bool :=
  (0x8000 ≤ a && a ≤ 0x9FFF) || (0xFE00 ≤ a && a ≤ 0xFE9F) || (0xFF40 ≤ a && a ≤ 0xFF4B)

/-- A register read (R361): not gated, and without side effect. -/
def Ppu.readReg (p : Ppu) (a : Nat) : Byte :=
  match a with
  | 0xFF40 => p.lcdc
  | 0xFF41 => p.stat &&& 0x7F
  | 0xFF42 => p.scy
  | 0xFF43 => p.scx
  | 0xFF44 => p.ly
  | 0xFF45 => p.lyc
  | 0xFF46 => p.dma
  | 0xFF47 => p.bgp
  | 0xFF48 => p.obp0
  | 0xFF49 => p.obp1
  | 0xFF4A => p.wy
  | 0xFF4B => p.wx
  | _ => Config.openBus

/-- `PPU.get(a)` (R379, R380, R91): the read without the mode gating. -/
def Ppu.get (p : Ppu) (a : Nat) : Byte :=
  if 0x8000 ≤ a ∧ a ≤ 0x9FFF then Memory.read p.vram (a - 0x8000)
  else if 0xFE00 ≤ a ∧ a ≤ 0xFE9F then Memory.read p.oam (a - 0xFE00)
  else p.readReg a

/-- Whether the mode gates an address (R379: video RAM in Draw; R380: object memory in OAM-scan and Draw). -/
def Ppu.gated (p : Ppu) (a : Nat) : Bool :=
  (decide (0x8000 ≤ a ∧ a ≤ 0x9FFF) && p.mode = 3)
    || (decide (0xFE00 ≤ a ∧ a ≤ 0xFE9F) && (p.mode = 2 || p.mode = 3))

/-- `PPU.read(a)` (R361, R379, R380, R395). -/
def Ppu.read (p : Ppu) (a : Nat) : Byte := if p.gated a then Config.allOnes else p.get a

/-- A write to LCDC (R362), with the display turned off (R377) or on (R378). -/
def Ppu.writeLcdc (p : Ppu) (v : Byte) : Ppu :=
  if p.enabled && !v.getLsbD 7 then { p with lcdc := v, stat := p.stat &&& 0xFC }
  else if !p.enabled && v.getLsbD 7 then
    { p with lcdc := v, ly := 0, lineCycle := 0, stat := (p.stat &&& 0xFC) ||| 2 }
  else { p with lcdc := v }

/-- A write to STAT stores bits 6:3 only (R363). -/
def Ppu.writeStat (p : Ppu) (v : Byte) : Ppu := { p with stat := (p.stat &&& 0x87) ||| (v &&& 0x78) }

/-- A write to the DMA register starts a transfer (R367, R391). -/
def Ppu.startDma (p : Ppu) (v : Byte) : Ppu := { p with dma := v, dmaSrc := v, dmaTick := 0, dmaActive := true }

/-- A register write: R362 to R369; LY ignores it (R365); an address that is no register changes nothing (R395). -/
def Ppu.writeReg (p : Ppu) (a : Nat) (v : Byte) : Ppu :=
  match a with
  | 0xFF40 => p.writeLcdc v
  | 0xFF41 => p.writeStat v
  | 0xFF42 => { p with scy := v }
  | 0xFF43 => { p with scx := v }
  | 0xFF44 => p
  | 0xFF45 => { p with lyc := v }
  | 0xFF46 => p.startDma v
  | 0xFF47 => { p with bgp := v }
  | 0xFF48 => { p with obp0 := v }
  | 0xFF49 => { p with obp1 := v }
  | 0xFF4A => { p with wy := v }
  | 0xFF4B => { p with wx := v }
  | _ => p

/-- `PPU.set(a, v)` (R379, R380, R91). -/
def Ppu.set (p : Ppu) (a : Nat) (v : Byte) : Ppu :=
  if 0x8000 ≤ a ∧ a ≤ 0x9FFF then { p with vram := Memory.write p.vram (a - 0x8000) v }
  else if 0xFE00 ≤ a ∧ a ≤ 0xFE9F then { p with oam := Memory.write p.oam (a - 0xFE00) v }
  else p.writeReg a v

/-- `PPU.write(a, v)`: a gated write is dropped (R379, R380). -/
def Ppu.write (p : Ppu) (a : Nat) (v : Byte) : Ppu := if p.gated a then p else p.set a v

/-- `set_mode(m)` (R373). -/
def Ppu.setMode (p : Ppu) (m : BitVec 2) : Ppu :=
  { p with
    stat := (p.stat &&& 0xFC) ||| m.setWidth 8
    statReq := p.statReq || (m = 0 && p.stat.getLsbD 3) || (m = 1 && p.stat.getLsbD 4) || (m = 2 && p.stat.getLsbD 5) }

/-- `coincidence_check()` (R375). -/
def Ppu.coincidenceCheck (p : Ppu) : Ppu :=
  if p.ly = p.lyc then { p with stat := p.stat ||| 0x04, statReq := p.statReq || p.stat.getLsbD 6 }
  else { p with stat := p.stat &&& 0xFB }

/-- The first part of a tick-of-4: four more cycles, and the next line at the end of one (R372). -/
def Ppu.nextCycle (p : Ppu) : Ppu :=
  if p.lineCycle + 4 = Config.cyclesPerLine then
    let ly : Byte := BitVec.ofNat 8 ((p.ly.toNat + 1) % Config.linesPerFrame)
    let q := { p with lineCycle := 0, ly := ly }
    if ly.toNat ≤ 143 then q.setMode 2 else if ly.toNat = 144 then q.setMode 1 else q
  else { p with lineCycle := p.lineCycle + 4 }

/-- The vblank request and the frame's completion (R374, R394). -/
def Ppu.vblankCheck (p : Ppu) : Ppu :=
  if p.ly.toNat = 144 ∧ p.lineCycle = Config.vblankIrqOffset then { p with vblankReq := true, frameDone := true } else p

/-- The changes to Draw and to HBlank inside a visible line (R372, R381). -/
def Ppu.lineModes (p : Ppu) : Ppu :=
  if p.ly.toNat ≤ 143 ∧ p.lineCycle = Config.drawOffset then p.setMode 3
  else if p.ly.toNat ≤ 143 ∧ p.lineCycle = Config.hblankOffset then (p.renderLine p.ly.toNat).setMode 0
  else p

/-- One tick-of-4 of the scanline state machine, its tests in R372's order on the values after the increment; while the
display is disabled nothing advances (R377). -/
def Ppu.advance (p : Ppu) : Ppu :=
  if p.enabled then
    let p := p.nextCycle
    let p := if p.lineCycle = Config.lycCheckOffset then p.coincidenceCheck else p
    p.vblankCheck.lineModes
  else p

end Sys2Proof.Machine
end

