-- ==== Sys2Proof/Machine/Timer.lean ====
section
/-! DEFINITION. The Timer: divider and counter (61_timer.md). -/

namespace Sys2Proof.Machine

/-- The addresses the Timer implements (R341). -/
def Timer.known (a : Nat) : Bool := 0xFF04 ≤ a && a ≤ 0xFF07

/-- `TIMER.read(a)` (R341); an address it does not implement reads 0xFF (R352). -/
def Timer.read (t : Timer) (a : Nat) : Byte :=
  if a = 0xFF04 then hiByte t.div16
  else if a = 0xFF05 then t.tima
  else if a = 0xFF06 then t.tma
  else if a = 0xFF07 then t.tac.setWidth 8
  else Config.openBus

/-- `TIMER.write(a, v)`: any write to DIV zeroes the whole divider (R343); R344 to R346; R352. -/
def Timer.write (t : Timer) (a : Nat) (v : Byte) : Timer :=
  if a = 0xFF04 then { t with div16 := 0 }
  else if a = 0xFF05 then { t with tima := v }
  else if a = 0xFF06 then { t with tma := v }
  else if a = 0xFF07 then { t with tac := v.extractLsb' 0 3 }
  else t

/-- The bit of the divider that the rate field selects (R348). -/
def Timer.selectedBit (t : Timer) : Nat :=
  match (t.tac.extractLsb' 0 2).toNat with
  | 0 => 9
  | 1 => 3
  | 2 => 5
  | _ => 7

/-- The increment of TIMA, with the reload and the request of an overflow (R347, R349). -/
def Timer.count (t : Timer) : Timer :=
  if t.tima = 0xFF then { t with tima := t.tma, req := true } else { t with tima := t.tima + 1 }

/-- One tick, one clock cycle (R347): the transition is evaluated between the divider before and after its increment. -/
def Timer.tick (t : Timer) : Timer :=
  let div := t.div16 + 1
  if t.tac.getLsbD 2 && t.div16.getLsbD t.selectedBit && !div.getLsbD t.selectedBit then
    { t with div16 := div }.count
  else { t with div16 := div }

/-- `TIMER.run(c)` (R350). -/
def Timer.run (t : Timer) (c : Nat) : Timer := Timer.tick^[c] t

end Sys2Proof.Machine
end

