-- ==== Sys2Proof/Machine/Bus.lean ====
section
/-! DEFINITION. The BUS: the region table, the CPU's read and write primitives, DMA blocking (20_memory.md), and the DMA
engine, which reads through the BUS (62_ppu.md, section 5). -/

namespace Sys2Proof.Machine

/-- The regions of R61, the I/O slots by their owner (R69). -/
inductive Region where
  | rom
  | vram
  | cartRam
  | wram
  | echo
  | oam
  | unmapped
  | joyp
  | timer
  | ppuReg
  | ioSlot
  | hram
  | ie
deriving DecidableEq, Repr

/-- The region of an address (R61, R69). -/
def regionOf (a : Nat) : Region :=
  if a < 0x8000 then .rom
  else if a < 0xA000 then .vram
  else if a < 0xC000 then .cartRam
  else if a < 0xE000 then .wram
  else if a < 0xFE00 then .echo
  else if a < 0xFEA0 then .oam
  else if a < 0xFF00 then .unmapped
  else if a = 0xFF00 then .joyp
  else if 0xFF04 ≤ a ∧ a ≤ 0xFF07 then .timer
  else if 0xFF40 ≤ a ∧ a ≤ 0xFF4B then .ppuReg
  else if a < 0xFF80 then .ioSlot
  else if a < 0xFFFF then .hram
  else .ie

/-- The read of a region's cell, where `ppu` is the PPU's own read, gated or not. -/
def Bus.readWith (ppu : Ppu → Nat → Byte) (b : Bus) (a : Nat) : Byte :=
  match regionOf a with
  | .rom => b.cart.read a
  | .vram => ppu b.ppu a
  | .cartRam => b.cart.read a
  | .wram => Memory.read b.wram (a - 0xC000)
  | .echo => Memory.read b.wram (a - 0xE000)
  | .oam => ppu b.ppu a
  | .unmapped => Config.openBus
  | .joyp => b.joypad.read
  | .timer => b.timer.read a
  | .ppuReg => ppu b.ppu a
  | .ioSlot => Memory.read b.io (a - 0xFF00)
  | .hram => Memory.read b.hram (a - 0xFF80)
  | .ie => b.ie

/-- `BUS.read(a)`: the value (R60 to R75). -/
def Bus.read (b : Bus) (a : Nat) : Byte := b.readWith Ppu.read a

/-- `BUS.get(a)`: the value, with no mode gating (R91). -/
def Bus.get (b : Bus) (a : Nat) : Byte := b.readWith Ppu.get a

/-- The diagnostic that an access to an address records (R68, R302): an address no region covers, or one that the Timer or
the PPU does not implement. -/
def accessAnomaly (a : Nat) (access : Access) : Option Anomaly :=
  match regionOf a with
  | .unmapped => some (.unmappedAddress (BitVec.ofNat 16 a) access)
  | .timer => if Timer.known a then none else some (.unknownRegister (BitVec.ofNat 16 a))
  | .vram => if Ppu.known a then none else some (.unknownRegister (BitVec.ofNat 16 a))
  | .oam => if Ppu.known a then none else some (.unknownRegister (BitVec.ofNat 16 a))
  | .ppuReg => if Ppu.known a then none else some (.unknownRegister (BitVec.ofNat 16 a))
  | .rom => none
  | .cartRam => none
  | .wram => none
  | .echo => none
  | .joyp => none
  | .ioSlot => none
  | .hram => none
  | .ie => none

/-- The sticky set with one more record (R44; log 14). -/
def recordAnomaly (set : List Anomaly) (x : Anomaly) : List Anomaly := if x ∈ set then set else set ++ [x]

/-- The BUS after a diagnostic is recorded (R44). -/
def Bus.record (b : Bus) (x : Anomaly) : Bus := { b with anomaly := recordAnomaly b.anomaly x }

/-- The BUS after an access is recorded, if it is to be (R68, R302). -/
def Bus.note (b : Bus) (a : Nat) (access : Access) : Bus :=
  match accessAnomaly a access with
  | some x => b.record x
  | none => b

/-- The cell of `io` an I/O address mirrors into (R69). -/
def ioSlotOf (a : Nat) : Nat := a - 0xFF00

/-- A write reaches its owner (R62 to R75); a write to an owned I/O slot is mirrored into `io` (R69). -/
def Bus.store (b : Bus) (a : Nat) (v : Byte) : Bus :=
  match regionOf a with
  | .rom => { b with cart := b.cart.write a v }
  | .vram => { b with ppu := b.ppu.write a v }
  | .cartRam => { b with cart := b.cart.write a v }
  | .wram => { b with wram := Memory.write b.wram (a - 0xC000) v }
  | .echo => { b with wram := Memory.write b.wram (a - 0xE000) v }
  | .oam => { b with ppu := b.ppu.write a v }
  | .unmapped => b
  | .joyp => { b with joypad := b.joypad.write v, io := Memory.write b.io (ioSlotOf a) v }
  | .timer => { b with timer := b.timer.write a v, io := Memory.write b.io (ioSlotOf a) v }
  | .ppuReg => { b with ppu := b.ppu.write a v, io := Memory.write b.io (ioSlotOf a) v }
  | .ioSlot => { b with io := Memory.write b.io (ioSlotOf a) v }
  | .hram => { b with hram := Memory.write b.hram (a - 0xFF80) v }
  | .ie => { b with ie := v }

/-- `BUS.write(a, v)` (R60 to R75). -/
def Bus.write (b : Bus) (a : Nat) (v : Byte) : Bus := (b.store a v).note a .write

/-- DMA_BLOCKED (R9, R76): work RAM and its echo. -/
def dmaBlocked (a : Nat) : Bool := regionOf a = .wram || regionOf a = .echo

/-- Whether the DMA engine blocks an access of the CPU (R76). -/
def Bus.blocks (b : Bus) (a : Nat) : Bool := b.ppu.dmaActive && dmaBlocked a

/-- `MemRead(a, 1)`: the value (R70). -/
def Bus.memRead (b : Bus) (a : Word) : Byte := if b.blocks a.toNat then Config.dmaSentinel else b.read a.toNat

/-- `MemRead(a, 1)`: the BUS after it, the same but for an anomaly record (R70, R81). -/
def Bus.afterRead (b : Bus) (a : Word) : Bus := if b.blocks a.toNat then b else b.note a.toNat .read

/-- `MemWrite(a, 1, v)` (R71). -/
def Bus.memWrite (b : Bus) (a : Word) (v : Byte) : Bus := if b.blocks a.toNat then b else b.write a.toNat v

/-- IF, which is `io[0x0F]` (R33, R75). -/
def Bus.ifReg (b : Bus) : Byte := Memory.read b.io 0x0F

/-- IF replaced (R75). -/
def Bus.setIf (b : Bus) (v : Byte) : Bus := { b with io := Memory.write b.io 0x0F v }

/-- `IE and IF and 0x1F` (R300, R304): the pending sources. -/
def Bus.pending (b : Bus) : Byte := b.ie &&& b.ifReg &&& 0x1F

/-- The address the DMA engine copies byte `k` from (R392). -/
def Ppu.dmaAddr (p : Ppu) (k : Nat) : Nat := p.dmaSrc.toNat * 0x100 + k

/-- The copy of byte `k` of a transfer: read ungated, with the anomaly of an unmapped source, and stored ungated (R392). -/
def Bus.dmaCopy (b : Bus) (k : Nat) : Bus :=
  let a := b.ppu.dmaAddr k
  let v := b.get a
  let b := b.note a .read
  { b with ppu := { b.ppu with oam := Memory.write b.ppu.oam k v } }

/-- `dma_tick4()` (R392). -/
def Bus.dmaTick4 (b : Bus) : Bus :=
  if b.ppu.dmaActive then
    let t := b.ppu.dmaTick + 1
    let b := { b with ppu := { b.ppu with dmaTick := t } }
    let b := if 2 ≤ t then b.dmaCopy (t - 2) else b
    if t = Config.dmaTicks then { b with ppu := { b.ppu with dmaActive := false } } else b
  else b

/-- `tick4()` (R372): the DMA engine, then the scanline state machine. -/
def Bus.tick4 (b : Bus) : Bus :=
  let b := b.dmaTick4
  { b with ppu := b.ppu.advance }

/-- `PPU.run(c)` (R376), for a `c` that is a multiple of 4. -/
def Bus.ppuRun (b : Bus) (c : Nat) : Bus := Bus.tick4^[c / 4] b

/-- The merge of the requests into IF, which clears the request outputs (R305). -/
def Bus.merge (b : Bus) : Bus :=
  let requests : Byte := (0#3) ++ BitVec.ofBool b.joypad.req ++ (0#1) ++ BitVec.ofBool b.timer.req
    ++ BitVec.ofBool b.ppu.statReq ++ BitVec.ofBool b.ppu.vblankReq
  let b := b.setIf (b.ifReg ||| requests)
  { b with ppu := { b.ppu with vblankReq := false, statReq := false }
           timer := { b.timer with req := false }
           joypad := { b.joypad with req := false } }

end Sys2Proof.Machine
end

