-- ==== Sys2Proof/Machine/Flags.lean ====
section
/-! DEFINITION. The flag register's layout (R22) and every result and flag computation of the instruction set (files 42, 43
and 44), on unbounded integers and narrowed at the end (R10, R202). -/

namespace Sys2Proof.Machine

/-- `fZ`, F[7] (R22). -/
def fZ (f : Byte) : Bool := f.getLsbD 7

/-- `fN`, F[6] (R22). -/
def fN (f : Byte) : Bool := f.getLsbD 6

/-- `fH`, F[5] (R22). -/
def fH (f : Byte) : Bool := f.getLsbD 5

/-- `fC`, F[4] (R22). -/
def fC (f : Byte) : Bool := f.getLsbD 4

/-- `{z, n, h, c, 0b0000}` (R11, R23). -/
def flagsOf (z n h c : Bool) : Byte :=
  BitVec.ofBool z ++ BitVec.ofBool n ++ BitVec.ofBool h ++ BitVec.ofBool c ++ (0#4)

/-- A result byte and the new F. -/
structure AluOut where
  value : Byte
  f : Byte
deriving DecidableEq, Repr

/-- `ADD` (R186). -/
def aluAdd (a s : Byte) : AluOut :=
  let sum := a.toNat + s.toNat
  ⟨BitVec.ofNat 8 sum, flagsOf (sum % 256 = 0) false (a.toNat % 16 + s.toNat % 16 > 0x0F) (sum > 0xFF)⟩

/-- `ADC` (R187). -/
def aluAdc (a s : Byte) (ci : Bool) : AluOut :=
  let sum := a.toNat + s.toNat + ci.toNat
  ⟨BitVec.ofNat 8 sum,
    flagsOf (sum % 256 = 0) false (a.toNat % 16 + s.toNat % 16 + ci.toNat > 0x0F) (sum > 0xFF)⟩

/-- `SUB` (R188). -/
def aluSub (a s : Byte) : AluOut :=
  ⟨BitVec.ofInt 8 ((a.toNat : Int) - s.toNat),
    flagsOf (a = s) true (a.toNat % 16 < s.toNat % 16) (a.toNat < s.toNat)⟩

/-- `SBC` (R189): the comparisons are on unbounded integers. -/
def aluSbc (a s : Byte) (ci : Bool) : AluOut :=
  let res := BitVec.ofInt 8 ((a.toNat : Int) - s.toNat - ci.toNat)
  ⟨res, flagsOf (res = 0) true (a.toNat % 16 < s.toNat % 16 + ci.toNat) (a.toNat < s.toNat + ci.toNat)⟩

/-- `AND` (R190). -/
def aluAnd (a s : Byte) : AluOut := ⟨a &&& s, flagsOf (a &&& s = 0) false true false⟩

/-- `XOR` (R191). -/
def aluXor (a s : Byte) : AluOut := ⟨a ^^^ s, flagsOf (a ^^^ s = 0) false false false⟩

/-- `OR` (R192). -/
def aluOr (a s : Byte) : AluOut := ⟨a ||| s, flagsOf (a ||| s = 0) false false false⟩

/-- `CP` (R193): the flags of `SUB`, and A as it was. -/
def aluCp (a s : Byte) : AluOut := ⟨a, (aluSub a s).f⟩

/-- `INC` of a byte (R194, R195). -/
def inc8 (v f : Byte) : AluOut :=
  let res := BitVec.ofNat 8 (v.toNat + 1)
  ⟨res, flagsOf (res = 0) false (v.toNat % 16 = 0x0F) (fC f)⟩

/-- `DEC` of a byte (R196, R197). -/
def dec8 (v f : Byte) : AluOut :=
  let res := BitVec.ofInt 8 ((v.toNat : Int) - 1)
  ⟨res, flagsOf (res = 0) true (v.toNat % 16 = 0x00) (fC f)⟩

/-- `DAA` (R198): both tests of the addition case use A as it was. -/
def daaOut (a f : Byte) : AluOut :=
  if fN f then
    let adj := (if fH f then 0x06 else 0) + (if fC f then 0x60 else 0)
    let res := BitVec.ofInt 8 ((a.toNat : Int) - adj)
    ⟨res, flagsOf (res = 0) true false (fC f)⟩
  else
    let high := fC f || decide (a.toNat > 0x99)
    let adj := (if fH f || decide (a.toNat % 16 > 0x09) then 0x06 else 0) + (if high then 0x60 else 0)
    let res := BitVec.ofNat 8 (a.toNat + adj)
    ⟨res, flagsOf (res = 0) false false high⟩

/-- `CPL` (R199). -/
def cplOut (a f : Byte) : AluOut := ⟨a ^^^ 0xFF, flagsOf (fZ f) true true (fC f)⟩

/-- `SCF`'s flags (R200). -/
def scfFlags (f : Byte) : Byte := flagsOf (fZ f) false false true

/-- `CCF`'s flags (R201). -/
def ccfFlags (f : Byte) : Byte := flagsOf (fZ f) false false (!fC f)

/-- A result word and the new F. -/
structure AluOut16 where
  value : Word
  f : Byte
deriving DecidableEq, Repr

/-- `ADD HL,rr` (R215). -/
def addHlOut (a s : Word) (f : Byte) : AluOut16 :=
  let sum := a.toNat + s.toNat
  ⟨BitVec.ofNat 16 sum,
    flagsOf (fZ f) false (a.toNat % 0x1000 + s.toNat % 0x1000 > 0x0FFF) (sum > 0xFFFF)⟩

/-- `addsp(sp, e)` with Z and N clear (R218 to R220): the sum takes `e` signed, the flags take the low bytes unsigned. -/
def addSpOut (sp : Word) (e : Byte) : AluOut16 :=
  ⟨BitVec.ofInt 16 ((sp.toNat : Int) + e.toInt),
    flagsOf false false (sp.toNat % 0x10 + e.toNat % 0x10 > 0x0F) (sp.toNat % 0x100 + e.toNat > 0xFF)⟩

/-- A rotate's or shift's result with its flags: Z computed, N and H clear, C the bit shifted out (R229 to R236). -/
def rotOut (res : Byte) (out : Bool) : AluOut := ⟨res, flagsOf (res = 0) false false out⟩

/-- `RLC` (R229). -/
def rlc (v : Byte) : AluOut := rotOut (v.extractLsb' 0 7 ++ BitVec.ofBool (v.getLsbD 7)) (v.getLsbD 7)

/-- `RRC` (R230). -/
def rrc (v : Byte) : AluOut := rotOut (BitVec.ofBool (v.getLsbD 0) ++ v.extractLsb' 1 7) (v.getLsbD 0)

/-- `RL` (R231). -/
def rl (v : Byte) (ci : Bool) : AluOut := rotOut (v.extractLsb' 0 7 ++ BitVec.ofBool ci) (v.getLsbD 7)

/-- `RR` (R232). -/
def rr (v : Byte) (ci : Bool) : AluOut := rotOut (BitVec.ofBool ci ++ v.extractLsb' 1 7) (v.getLsbD 0)

/-- `SLA` (R233). -/
def sla (v : Byte) : AluOut := rotOut (v.extractLsb' 0 7 ++ (0#1)) (v.getLsbD 7)

/-- `SRA` (R234): bit 7 is kept. -/
def sra (v : Byte) : AluOut := rotOut (BitVec.ofBool (v.getLsbD 7) ++ v.extractLsb' 1 7) (v.getLsbD 0)

/-- `SWAP` (R235). -/
def swap (v : Byte) : AluOut := rotOut (v.extractLsb' 0 4 ++ v.extractLsb' 4 4) false

/-- `SRL` (R236): bit 7 becomes 0. -/
def srl (v : Byte) : AluOut := rotOut ((0#1) ++ v.extractLsb' 1 7) (v.getLsbD 0)

/-- The accumulator rotates clear Z, whatever the result (R225 to R228). -/
def clearZ (o : AluOut) : AluOut := ⟨o.value, flagsOf false (fN o.f) (fH o.f) (fC o.f)⟩

/-- `BIT b`'s flags (R237). -/
def bitFlags (v f : Byte) (b : Nat) : Byte := flagsOf (!v.getLsbD b) false true (fC f)

/-- `RES b` (R238). -/
def resBit (v : Byte) (b : Nat) : Byte := v &&& (0xFF ^^^ (1#8 <<< b))

/-- `SET b` (R239). -/
def setBit (v : Byte) (b : Nat) : Byte := v ||| (1#8 <<< b)

end Sys2Proof.Machine
end

