-- ==== Sys2Proof/Machine/Operands.lean ====
section
/-! DEFINITION. The operand forms: register fields (R113 to R116), conditions (R117), operation fields (R118, R119), the
addressing modes of the accumulator loads (R159), and how each is read and written. -/

namespace Sys2Proof.Machine

/-- The seven 8-bit registers an operand field names (R113, R27). -/
inductive Reg8 where
  | b
  | c
  | d
  | e
  | h
  | l
  | a
deriving DecidableEq, Repr

/-- The 3-bit operand `r8`: a register, or the memory byte at HL (R113). -/
inductive R8 where
  | reg (r : Reg8)
  | atHL
deriving DecidableEq, Repr

/-- The 2-bit field `r16` (R114). -/
inductive R16 where
  | bc
  | de
  | hl
  | sp
deriving DecidableEq, Repr

/-- The 2-bit field `r16stk` (R115). -/
inductive R16Stk where
  | bc
  | de
  | hl
  | af
deriving DecidableEq, Repr

/-- The 2-bit field `cc` (R117). -/
inductive Cond where
  | nz
  | z
  | nc
  | c
deriving DecidableEq, Repr

/-- The 3-bit ALU operation field (R118). -/
inductive AluOp where
  | add
  | adc
  | sub
  | sbc
  | and
  | xor
  | or
  | cp
deriving DecidableEq, Repr

/-- The source of an accumulator operation (R185). -/
inductive AluSrc where
  | r8 (r : R8)
  | imm (n : Byte)
deriving DecidableEq, Repr

/-- The 3-bit rotate and shift operation field (R119). -/
inductive RotOp where
  | rlc
  | rrc
  | rl
  | rr
  | sla
  | sra
  | swap
  | srl
deriving DecidableEq, Repr

/-- Where a load or store of the accumulator finds its byte: `(BC)`, `(DE)`, `(HL+)`, `(HL-)` (R116), `(nn)`, `(n)` and `(C)`
of the page 0xFF00 (R149 to R154). -/
inductive Indirect where
  | bc
  | de
  | hlInc
  | hlDec
  | abs (nn : Word)
  | high (n : Byte)
  | highC
deriving DecidableEq, Repr

/-- The operand field's coding (R113). -/
def R8.ofField (z : Nat) : R8 :=
  match z with
  | 0 => .reg .b
  | 1 => .reg .c
  | 2 => .reg .d
  | 3 => .reg .e
  | 4 => .reg .h
  | 5 => .reg .l
  | 6 => .atHL
  | _ => .reg .a

/-- The pair field's coding (R114). -/
def R16.ofField (p : Nat) : R16 :=
  match p with
  | 0 => .bc
  | 1 => .de
  | 2 => .hl
  | _ => .sp

/-- The stack pair field's coding (R115). -/
def R16Stk.ofField (p : Nat) : R16Stk :=
  match p with
  | 0 => .bc
  | 1 => .de
  | 2 => .hl
  | _ => .af

/-- The indirect field's coding (R116). -/
def Indirect.ofField (p : Nat) : Indirect :=
  match p with
  | 0 => .bc
  | 1 => .de
  | 2 => .hlInc
  | _ => .hlDec

/-- The condition field's coding (R117). -/
def Cond.ofField (cc : Nat) : Cond :=
  match cc with
  | 0 => .nz
  | 1 => .z
  | 2 => .nc
  | _ => .c

/-- The ALU field's coding (R118). -/
def AluOp.ofField (y : Nat) : AluOp :=
  match y with
  | 0 => .add
  | 1 => .adc
  | 2 => .sub
  | 3 => .sbc
  | 4 => .and
  | 5 => .xor
  | 6 => .or
  | _ => .cp

/-- The rotate field's coding (R119). -/
def RotOp.ofField (y : Nat) : RotOp :=
  match y with
  | 0 => .rlc
  | 1 => .rrc
  | 2 => .rl
  | 3 => .rr
  | 4 => .sla
  | 5 => .sra
  | 6 => .swap
  | _ => .srl

/-- The number of a register in the field `r8` (R113). -/
def Reg8.code (r : Reg8) : Nat :=
  match r with
  | .b => 0
  | .c => 1
  | .d => 2
  | .e => 3
  | .h => 4
  | .l => 5
  | .a => 7

/-- The number of an operand in the field `r8` (R113). -/
def R8.code (r : R8) : Nat :=
  match r with
  | .reg q => q.code
  | .atHL => 6

/-- The number of a pair in the field `r16` (R114). -/
def R16.code (p : R16) : Nat :=
  match p with
  | .bc => 0
  | .de => 1
  | .hl => 2
  | .sp => 3

/-- The number of a pair in the field `r16stk` (R115). -/
def R16Stk.code (p : R16Stk) : Nat :=
  match p with
  | .bc => 0
  | .de => 1
  | .hl => 2
  | .af => 3

/-- The number of a condition in the field `cc` (R117). -/
def Cond.code (c : Cond) : Nat :=
  match c with
  | .nz => 0
  | .z => 1
  | .nc => 2
  | .c => 3

/-- The number of an operation in the ALU field (R118). -/
def AluOp.code (op : AluOp) : Nat :=
  match op with
  | .add => 0
  | .adc => 1
  | .sub => 2
  | .sbc => 3
  | .and => 4
  | .xor => 5
  | .or => 6
  | .cp => 7

/-- The number of an operation in the rotate field (R119). -/
def RotOp.code (op : RotOp) : Nat :=
  match op with
  | .rlc => 0
  | .rrc => 1
  | .rl => 2
  | .rr => 3
  | .sla => 4
  | .sra => 5
  | .swap => 6
  | .srl => 7

/-- `cond(cc)` (R117). -/
def Cond.holds (cc : Cond) (f : Byte) : Bool :=
  match cc with
  | .nz => !fZ f
  | .z => fZ f
  | .nc => !fC f
  | .c => fC f

/-- The accumulator operation (R186 to R193). -/
def AluOp.compute (op : AluOp) (a s f : Byte) : AluOut :=
  match op with
  | .add => aluAdd a s
  | .adc => aluAdc a s (fC f)
  | .sub => aluSub a s
  | .sbc => aluSbc a s (fC f)
  | .and => aluAnd a s
  | .xor => aluXor a s
  | .or => aluOr a s
  | .cp => aluCp a s

/-- The rotate or shift (R229 to R236). -/
def RotOp.compute (op : RotOp) (v f : Byte) : AluOut :=
  match op with
  | .rlc => Machine.rlc v
  | .rrc => Machine.rrc v
  | .rl => Machine.rl v (fC f)
  | .rr => Machine.rr v (fC f)
  | .sla => Machine.sla v
  | .sra => Machine.sra v
  | .swap => Machine.swap v
  | .srl => Machine.srl v

/-- The value of a register (R20). -/
def Cpu.reg (c : Cpu) (r : Reg8) : Byte :=
  match r with
  | .b => c.b
  | .c => c.c
  | .d => c.d
  | .e => c.e
  | .h => c.h
  | .l => c.l
  | .a => c.a

/-- A register written (R20). -/
def Cpu.setReg (c : Cpu) (r : Reg8) (v : Byte) : Cpu :=
  match r with
  | .b => { c with b := v }
  | .c => { c with c := v }
  | .d => { c with d := v }
  | .e => { c with e := v }
  | .h => { c with h := v }
  | .l => { c with l := v }
  | .a => { c with a := v }

/-- The view `{B, C}` (R21). -/
def Cpu.bc (c : Cpu) : Word := mkWord c.b c.c

/-- The view `{D, E}` (R21). -/
def Cpu.de (c : Cpu) : Word := mkWord c.d c.e

/-- The view `{H, L}` (R21). -/
def Cpu.hl (c : Cpu) : Word := mkWord c.h c.l

/-- The view `{A, F}` (R21). -/
def Cpu.af (c : Cpu) : Word := mkWord c.a c.f

/-- `HL <- v` (R21). -/
def Cpu.setHl (c : Cpu) (v : Word) : Cpu := { c with h := hiByte v, l := loByte v }

/-- `r16[p]` (R114). -/
def Cpu.reg16 (c : Cpu) (p : R16) : Word :=
  match p with
  | .bc => c.bc
  | .de => c.de
  | .hl => c.hl
  | .sp => c.sp

/-- `r16[p] <- v` (R21, R114). -/
def Cpu.setReg16 (c : Cpu) (p : R16) (v : Word) : Cpu :=
  match p with
  | .bc => { c with b := hiByte v, c := loByte v }
  | .de => { c with d := hiByte v, e := loByte v }
  | .hl => c.setHl v
  | .sp => { c with sp := v }

/-- `r16stk[p]` (R115). -/
def Cpu.stk (c : Cpu) (p : R16Stk) : Word :=
  match p with
  | .bc => c.bc
  | .de => c.de
  | .hl => c.hl
  | .af => c.af

/-- A popped pair written; the low nibble of F stays 0 (R174, R175). -/
def Cpu.setStk (c : Cpu) (p : R16Stk) (v : Word) : Cpu :=
  match p with
  | .bc => { c with b := hiByte v, c := loByte v }
  | .de => { c with d := hiByte v, e := loByte v }
  | .hl => c.setHl v
  | .af => { c with a := hiByte v, f := loByte v &&& 0xF0 }

namespace State

/-- The state with another CPU. -/
def setCpu (s : State) (c : Cpu) : State := { s with cpu := c }

/-- The state with another BUS. -/
def setBus (s : State) (b : Bus) : State := { s with bus := b }

/-- The step's cycle count, `n` more (R300). -/
def tick (s : State) (n : Nat) : State := { s with cycles := s.cycles + n }

/-- `PC <- v` (R25). -/
def setPc (s : State) (v : Word) : State := s.setCpu { s.cpu with pc := v }

/-- `SP <- v` (R24). -/
def setSp (s : State) (v : Word) : State := s.setCpu { s.cpu with sp := v }

/-- `F <- v` (R22). -/
def setF (s : State) (v : Byte) : State := s.setCpu { s.cpu with f := v }

/-- `A <- v` (R20). -/
def setA (s : State) (v : Byte) : State := s.setCpu { s.cpu with a := v }

/-- `MemRead(a, 1)`: the value (R70). -/
def read (s : State) (a : Word) : Byte := s.bus.memRead a

/-- `MemRead(a, 1)`: the state after it (R70, R81). -/
def noteRead (s : State) (a : Word) : State := s.setBus (s.bus.afterRead a)

/-- `MemWrite(a, 1, v)` (R71). -/
def write (s : State) (a : Word) (v : Byte) : State := s.setBus (s.bus.memWrite a v)

/-- The value of an `r8` operand (R113). -/
def r8 (s : State) (r : R8) : Byte :=
  match r with
  | .reg q => s.cpu.reg q
  | .atHL => s.read s.cpu.hl

/-- The state after an `r8` operand is read (R113). -/
def noteR8 (s : State) (r : R8) : State :=
  match r with
  | .reg _ => s
  | .atHL => s.noteRead s.cpu.hl

/-- An `r8` operand written (R113). -/
def setR8 (s : State) (r : R8) (v : Byte) : State :=
  match r with
  | .reg q => s.setCpu (s.cpu.setReg q v)
  | .atHL => s.write s.cpu.hl v

/-- The value of an ALU source (R185). -/
def aluSrc (s : State) (src : AluSrc) : Byte :=
  match src with
  | .r8 r => s.r8 r
  | .imm n => n

/-- The state after an ALU source is read (R185). -/
def noteAluSrc (s : State) (src : AluSrc) : State :=
  match src with
  | .r8 r => s.noteR8 r
  | .imm _ => s

/-- The address of an accumulator load or store (R145 to R158). -/
def indirectAddr (s : State) (m : Indirect) : Word :=
  match m with
  | .bc => s.cpu.bc
  | .de => s.cpu.de
  | .hlInc => s.cpu.hl
  | .hlDec => s.cpu.hl
  | .abs nn => nn
  | .high n => 0xFF00 + n.setWidth 16
  | .highC => 0xFF00 + s.cpu.c.setWidth 16

/-- The increment or decrement of HL after the access (R155 to R158). -/
def afterIndirect (s : State) (m : Indirect) : State :=
  match m with
  | .bc => s
  | .de => s
  | .hlInc => s.setCpu (s.cpu.setHl (s.cpu.hl + 1))
  | .hlDec => s.setCpu (s.cpu.setHl (s.cpu.hl - 1))
  | .abs _ => s
  | .high _ => s
  | .highC => s

end State

end Sys2Proof.Machine
end

