-- ==== Sys2Proof/Machine/Ops.lean ====
section
/-! DEFINITION. The named operations over memory and registers that instructions and the step share: fetch, 16-bit accesses,
the stack (R11, R72), and taking and leaving an interrupt, which is this hardware's only exception (60_exceptions.md). -/

namespace Sys2Proof.Machine

/-- What a meaning and a step answer. -/
abbrev Result := Host.Outcome State Fault Refusal

namespace State

/-- `fetch8()`: the byte at PC and the state with PC past it (R11). -/
def fetch8 (s : State) : Byte × State := (s.read s.cpu.pc, (s.noteRead s.cpu.pc).setPc (s.cpu.pc + 1))

/-- `MemWrite(a, 2, v)`: low byte first, the second address wrapping (R72, R93). -/
def write16 (s : State) (a : Word) (v : Word) : State := (s.write a (loByte v)).write (a + 1) (hiByte v)

/-- `MemRead(a, 2)`: low byte first, the second address wrapping (R72, R93). -/
def read16 (s : State) (a : Word) : Word × State :=
  let s1 := s.noteRead a
  (mkWord (s1.read (a + 1)) (s.read a), s1.noteRead (a + 1))

/-- `push16(v)` (R11, R173). -/
def push16 (s : State) (v : Word) : State := (s.setSp (s.cpu.sp - 2)).write16 (s.cpu.sp - 2) v

/-- `pop16()` (R11, R174). -/
def pop16 (s : State) : Word × State :=
  let r := s.read16 s.cpu.sp
  (r.1, r.2.setSp (s.cpu.sp + 2))

/-- A call: the address of the next instruction is pushed, then PC is the target (R255, R260). -/
def call (s : State) (target : Word) : State := (s.push16 s.cpu.pc).setPc target

/-- A return: `PC <- pop16()` (R257). -/
def ret (s : State) : State := s.pop16.2.setPc s.pop16.1

/-- The return from a handler: a return that sets IME at once and drops a waiting EI (R259, R313). -/
def retInterrupt (s : State) : State :=
  let t := s.ret
  t.setCpu { t.cpu with ime := true, imePending := false }

end State

/-- `vector(i)` (R309). -/
def vector (i : Nat) : Word := BitVec.ofNat 16 (0x0040 + 8 * i)

/-- The least set bit of 4:0, the source that is dispatched (R300, R306). -/
def leastPending (pend : Byte) : Option Nat := (List.range 5).find? fun i => pend.getLsbD i

namespace State

/-- `IF[i] <- 0` (R308). -/
def clearIf (s : State) (i : Nat) : State := s.setBus (s.bus.setIf (resBit s.bus.ifReg i))

/-- TAKING AN INTERRUPT, the dispatch of source `i`, in the order of R308: its request is cleared, PC is pushed, PC is the
vector, IME is cleared, and the cost is added. Nothing else is saved or changed. -/
def takeInterrupt (s : State) (i : Nat) : State :=
  let t := (s.clearIf i).push16 s.cpu.pc
  (t.setCpu { t.cpu with pc := vector i, ime := false }).tick Config.intDispatchCycles

/-- The wake-up: an enabled request ends the halted state, whatever IME (R310). -/
def wake (s : State) : State :=
  if s.cpu.halted && s.bus.pending ≠ 0 then s.setCpu { s.cpu with halted := false } else s

/-- `handleInterrupts()`, part (1) of the step: the wake-up, then at most one dispatch (R300, R306, R307). -/
def interruptCheck (s : State) : State :=
  let t := s.wake
  if t.cpu.ime then
    match leastPending s.bus.pending with
    | some i => t.takeInterrupt i
    | none => t
  else t

/-- Part (4) of the step: an EI that waited when the instruction started, and still waits, sets IME (R300, R311). -/
def promoteEi (s : State) (waited : Bool) : State :=
  if waited && s.cpu.imePending then s.setCpu { s.cpu with ime := true, imePending := false } else s

end State

end Sys2Proof.Machine
end

