-- ==== Sys2Proof/Machine/Board.lean ====
section
/-! DEFINITION. The parts of the step around an instruction: the fetch (R128, R300), the inputs of a step (R394, R460), the
BOARD's advance of the peripherals (R305), and how an instruction is placed where the step fetches. -/

namespace Sys2Proof.Machine

namespace State

/-- Fetch and decode: the opcode byte, then as many bytes as the instruction has, each through `fetch8` (R78, R92, R128). -/
def fetchInstr (s : State) : Instr × State :=
  let f0 := s.fetch8
  if instrLength f0.1 = 1 then (decodeBytes f0.1 0 0, f0.2)
  else
    let f1 := f0.2.fetch8
    if instrLength f0.1 = 2 then (decodeBytes f0.1 f1.1 0, f1.2)
    else
      let f2 := f1.2.fetch8
      (decodeBytes f0.1 f1.1 f2.1, f2.2)

/-- The consumer's clearing of `frame_done`, which changes nothing else (R394). -/
def clearFrameDone (s : State) : State :=
  s.setBus { s.bus with ppu := { s.bus.ppu with frameDone := false } }

/-- The beginning of a step: the consumer's input, which comes between two steps (R394; log 5), and `c <- 0` (R300). -/
def beginStep (s : State) : State :=
  let t := { s with cycles := 0 }
  match s.inputs with
  | [] => t
  | i :: _ => if i.clearFrameDone then t.clearFrameDone else t

/-- The button snapshot of the step; with no input left the buttons stay as they are (R460; log 4). -/
def pressed (s : State) : Byte :=
  match s.inputs with
  | [] => ~~~s.bus.joypad.buttons
  | i :: _ => i.pressed

/-- Part of `BOARD.step` after the CPU: Timer, PPU with DMA, Joypad, merge (R305), and the step's input is used up. -/
def advanceBoard (s : State) : State :=
  let b := { s.bus with timer := s.bus.timer.run s.cycles }
  let b := b.ppuRun s.cycles
  let b := { b with joypad := b.joypad.refresh s.pressed }
  { s with bus := b.merge, inputs := s.inputs.tail }

/-- The end of a step. `PPU.run` refuses a count that is no multiple of 4 (R376). -/
def finishStep (s : State) : Result :=
  if s.cycles % 4 = 0 then .next s.advanceBoard else .refused (.cyclesNotMultipleOfFour s.cycles)

end State

/-- The BUS with a byte put into the storage behind an address, past every gate: a load from outside the machine. An address
without storage of its own changes nothing. -/
def Bus.place (b : Bus) (a : Nat) (v : Byte) : Bus :=
  match regionOf a with
  | .rom => { b with cart := { b.cart with rom := Memory.write b.cart.rom (b.cart.romCell a) v } }
  | .vram => { b with ppu := b.ppu.set a v }
  | .cartRam => { b with cart := b.cart.writeRam a v }
  | .wram => { b with wram := Memory.write b.wram (a - 0xC000) v }
  | .echo => { b with wram := Memory.write b.wram (a - 0xE000) v }
  | .oam => { b with ppu := b.ppu.set a v }
  | .unmapped => b
  | .joyp => b
  | .timer => b
  | .ppuReg => b
  | .ioSlot => { b with io := Memory.write b.io (ioSlotOf a) v }
  | .hram => { b with hram := Memory.write b.hram (a - 0xFF80) v }
  | .ie => { b with ie := v }

namespace State

/-- Three bytes put at an address and the two after it. -/
def placeAt (s : State) (a : Word) (b0 b1 b2 : Byte) : State :=
  s.setBus (((s.bus.place a.toNat b0).place (a + 1).toNat b1).place (a + 2).toNat b2)

/-- Whether the step, as this state stands, would fetch exactly these three bytes. -/
def wouldFetch (s : State) (b0 b1 b2 : Byte) : Bool :=
  let t := s.interruptCheck
  t.read t.cpu.pc = b0 && t.read (t.cpu.pc + 1) = b1 && t.read (t.cpu.pc + 2) = b2

/-- Three bytes placed where the next step fetches its instruction (log 13): the machine runs (neither halted nor stopped), and
they go to the address in PC after the step's interrupt check; where that address cannot hold them (a register, a gated or
blocked region, the hole of R68), PC is first set to 0x0150 in cartridge ROM, behind the header. -/
def placeInstr (s : State) (b0 b1 b2 : Byte) : State :=
  let t := s.setCpu { s.cpu with halted := false, stopped := false }
  let u := t.placeAt t.interruptCheck.cpu.pc b0 b1 b2
  if u.wouldFetch b0 b1 b2 then u else (t.setPc 0x0150).placeAt 0x0150 b0 b1 b2

end State

end Sys2Proof.Machine
end

