-- ==== Sys2Proof/Machine/Alu16.lean ====
section
/-! DEFINITION. 16-bit arithmetic (43_alu16.md): the shared operations, then one meaning per instruction. -/

namespace Sys2Proof.Machine

/-- `ADD HL,rr` (R215): the source is read before HL is written. -/
def doAddHl (p : R16) (s : State) : Result :=
  let o := addHlOut s.cpu.hl (s.cpu.reg16 p) s.cpu.f
  .next (((s.setCpu (s.cpu.setHl o.value)).setF o.f).tick Config.cycAddHl)

/-- `INC rr` (R216): no flag. -/
def doInc16 (p : R16) (s : State) : Result :=
  .next ((s.setCpu (s.cpu.setReg16 p (s.cpu.reg16 p + 1))).tick Config.cycInc16)

/-- `DEC rr` (R217): no flag. -/
def doDec16 (p : R16) (s : State) : Result :=
  .next ((s.setCpu (s.cpu.setReg16 p (s.cpu.reg16 p - 1))).tick Config.cycInc16)

/-- `ADD SP,e` (R218). -/
def doAddSp (e : Byte) (s : State) : Result :=
  let o := addSpOut s.cpu.sp e
  .next (((s.setSp o.value).setF o.f).tick Config.cycAddSp)

/-- `LD HL,SP+e` (R219): SP is not changed. -/
def doLdHlSp (e : Byte) (s : State) : Result :=
  let o := addSpOut s.cpu.sp e
  .next (((s.setCpu (s.cpu.setHl o.value)).setF o.f).tick Config.cycLdHlSp)

/-- `INC BC` (R216) -/
def execInc_BC (s : State) : Result := doInc16 .bc s

/-- `ADD HL,BC` (R215) -/
def execAdd_HL_BC (s : State) : Result := doAddHl .bc s

/-- `DEC BC` (R217) -/
def execDec_BC (s : State) : Result := doDec16 .bc s

/-- `INC DE` (R216) -/
def execInc_DE (s : State) : Result := doInc16 .de s

/-- `ADD HL,DE` (R215) -/
def execAdd_HL_DE (s : State) : Result := doAddHl .de s

/-- `DEC DE` (R217) -/
def execDec_DE (s : State) : Result := doDec16 .de s

/-- `INC HL` (R216) -/
def execInc_HL (s : State) : Result := doInc16 .hl s

/-- `ADD HL,HL` (R215) -/
def execAdd_HL_HL (s : State) : Result := doAddHl .hl s

/-- `DEC HL` (R217) -/
def execDec_HL (s : State) : Result := doDec16 .hl s

/-- `INC SP` (R216) -/
def execInc_SP (s : State) : Result := doInc16 .sp s

/-- `ADD HL,SP` (R215) -/
def execAdd_HL_SP (s : State) : Result := doAddHl .sp s

/-- `DEC SP` (R217) -/
def execDec_SP (s : State) : Result := doDec16 .sp s

/-- `ADD SP,e` (R218) -/
def execAdd_SP_e (e : Byte) (s : State) : Result := doAddSp e s

/-- `LD HL,SP+e` (R219) -/
def execLd_HL_SPe (e : Byte) (s : State) : Result := doLdHlSp e s

end Sys2Proof.Machine
end

