-- ==== Sys2Proof/Machine/Alu8.lean ====
section
/-! DEFINITION. 8-bit arithmetic and logic (42_alu8.md): the shared operations, then one meaning per instruction. -/

namespace Sys2Proof.Machine

/-- What an accumulator operation costs (R185). -/
def aluCycles (src : AluSrc) : Nat :=
  match src with
  | .r8 .atHL => Config.cycAluMem
  | .r8 (.reg _) => Config.cycAluReg
  | .imm _ => Config.cycAluImm

/-- `ADD`, `ADC`, `SUB`, `SBC`, `AND`, `XOR`, `OR`, `CP` (R185 to R193). -/
def doAlu (op : AluOp) (src : AluSrc) (s : State) : Result :=
  let o := op.compute s.cpu.a (s.aluSrc src) s.cpu.f
  .next ((((s.noteAluSrc src).setA o.value).setF o.f).tick (aluCycles src))

/-- What `INC` and `DEC` of a byte cost (R194 to R197). -/
def incCycles (r : R8) : Nat := if r = .atHL then Config.cycIncMem else Config.cycIncReg

/-- `INC r`, `INC (HL)` (R194, R195): the flags come from the value read, even when the write is dropped. -/
def doInc8 (r : R8) (s : State) : Result :=
  let o := inc8 (s.r8 r) s.cpu.f
  .next ((((s.noteR8 r).setR8 r o.value).setF o.f).tick (incCycles r))

/-- `DEC r`, `DEC (HL)` (R196, R197). -/
def doDec8 (r : R8) (s : State) : Result :=
  let o := dec8 (s.r8 r) s.cpu.f
  .next ((((s.noteR8 r).setR8 r o.value).setF o.f).tick (incCycles r))

/-- `DAA` (R198). -/
def doDaa (s : State) : Result :=
  let o := daaOut s.cpu.a s.cpu.f
  .next (((s.setA o.value).setF o.f).tick Config.cycAcc)

/-- `CPL` (R199). -/
def doCpl (s : State) : Result :=
  let o := cplOut s.cpu.a s.cpu.f
  .next (((s.setA o.value).setF o.f).tick Config.cycAcc)

/-- `SCF` (R200). -/
def doScf (s : State) : Result := .next ((s.setF (scfFlags s.cpu.f)).tick Config.cycAcc)

/-- `CCF` (R201). -/
def doCcf (s : State) : Result := .next ((s.setF (ccfFlags s.cpu.f)).tick Config.cycAcc)

/-- `INC B` (R194) -/
def execInc_B (s : State) : Result := doInc8 (.reg .b) s

/-- `DEC B` (R196) -/
def execDec_B (s : State) : Result := doDec8 (.reg .b) s

/-- `INC C` (R194) -/
def execInc_C (s : State) : Result := doInc8 (.reg .c) s

/-- `DEC C` (R196) -/
def execDec_C (s : State) : Result := doDec8 (.reg .c) s

/-- `INC D` (R194) -/
def execInc_D (s : State) : Result := doInc8 (.reg .d) s

/-- `DEC D` (R196) -/
def execDec_D (s : State) : Result := doDec8 (.reg .d) s

/-- `INC E` (R194) -/
def execInc_E (s : State) : Result := doInc8 (.reg .e) s

/-- `DEC E` (R196) -/
def execDec_E (s : State) : Result := doDec8 (.reg .e) s

/-- `INC H` (R194) -/
def execInc_H (s : State) : Result := doInc8 (.reg .h) s

/-- `DEC H` (R196) -/
def execDec_H (s : State) : Result := doDec8 (.reg .h) s

/-- `DAA` (R198) -/
def execDaa (s : State) : Result := doDaa s

/-- `INC L` (R194) -/
def execInc_L (s : State) : Result := doInc8 (.reg .l) s

/-- `DEC L` (R196) -/
def execDec_L (s : State) : Result := doDec8 (.reg .l) s

/-- `CPL` (R199) -/
def execCpl (s : State) : Result := doCpl s

/-- `INC (HL)` (R195) -/
def execInc_atHL (s : State) : Result := doInc8 .atHL s

/-- `DEC (HL)` (R197) -/
def execDec_atHL (s : State) : Result := doDec8 .atHL s

/-- `SCF` (R200) -/
def execScf (s : State) : Result := doScf s

/-- `INC A` (R194) -/
def execInc_A (s : State) : Result := doInc8 (.reg .a) s

/-- `DEC A` (R196) -/
def execDec_A (s : State) : Result := doDec8 (.reg .a) s

/-- `CCF` (R201) -/
def execCcf (s : State) : Result := doCcf s

/-- `ADD A,B` (R186) -/
def execAdd_B (s : State) : Result := doAlu .add (.r8 (.reg .b)) s

/-- `ADD A,C` (R186) -/
def execAdd_C (s : State) : Result := doAlu .add (.r8 (.reg .c)) s

/-- `ADD A,D` (R186) -/
def execAdd_D (s : State) : Result := doAlu .add (.r8 (.reg .d)) s

/-- `ADD A,E` (R186) -/
def execAdd_E (s : State) : Result := doAlu .add (.r8 (.reg .e)) s

/-- `ADD A,H` (R186) -/
def execAdd_H (s : State) : Result := doAlu .add (.r8 (.reg .h)) s

/-- `ADD A,L` (R186) -/
def execAdd_L (s : State) : Result := doAlu .add (.r8 (.reg .l)) s

/-- `ADD A,(HL)` (R186) -/
def execAdd_atHL (s : State) : Result := doAlu .add (.r8 .atHL) s

/-- `ADD A,A` (R186) -/
def execAdd_A (s : State) : Result := doAlu .add (.r8 (.reg .a)) s

/-- `ADC A,B` (R187) -/
def execAdc_B (s : State) : Result := doAlu .adc (.r8 (.reg .b)) s

/-- `ADC A,C` (R187) -/
def execAdc_C (s : State) : Result := doAlu .adc (.r8 (.reg .c)) s

/-- `ADC A,D` (R187) -/
def execAdc_D (s : State) : Result := doAlu .adc (.r8 (.reg .d)) s

/-- `ADC A,E` (R187) -/
def execAdc_E (s : State) : Result := doAlu .adc (.r8 (.reg .e)) s

/-- `ADC A,H` (R187) -/
def execAdc_H (s : State) : Result := doAlu .adc (.r8 (.reg .h)) s

/-- `ADC A,L` (R187) -/
def execAdc_L (s : State) : Result := doAlu .adc (.r8 (.reg .l)) s

/-- `ADC A,(HL)` (R187) -/
def execAdc_atHL (s : State) : Result := doAlu .adc (.r8 .atHL) s

/-- `ADC A,A` (R187) -/
def execAdc_A (s : State) : Result := doAlu .adc (.r8 (.reg .a)) s

/-- `SUB B` (R188) -/
def execSub_B (s : State) : Result := doAlu .sub (.r8 (.reg .b)) s

/-- `SUB C` (R188) -/
def execSub_C (s : State) : Result := doAlu .sub (.r8 (.reg .c)) s

/-- `SUB D` (R188) -/
def execSub_D (s : State) : Result := doAlu .sub (.r8 (.reg .d)) s

/-- `SUB E` (R188) -/
def execSub_E (s : State) : Result := doAlu .sub (.r8 (.reg .e)) s

/-- `SUB H` (R188) -/
def execSub_H (s : State) : Result := doAlu .sub (.r8 (.reg .h)) s

/-- `SUB L` (R188) -/
def execSub_L (s : State) : Result := doAlu .sub (.r8 (.reg .l)) s

/-- `SUB (HL)` (R188) -/
def execSub_atHL (s : State) : Result := doAlu .sub (.r8 .atHL) s

/-- `SUB A` (R188) -/
def execSub_A (s : State) : Result := doAlu .sub (.r8 (.reg .a)) s

/-- `SBC A,B` (R189) -/
def execSbc_B (s : State) : Result := doAlu .sbc (.r8 (.reg .b)) s

/-- `SBC A,C` (R189) -/
def execSbc_C (s : State) : Result := doAlu .sbc (.r8 (.reg .c)) s

/-- `SBC A,D` (R189) -/
def execSbc_D (s : State) : Result := doAlu .sbc (.r8 (.reg .d)) s

/-- `SBC A,E` (R189) -/
def execSbc_E (s : State) : Result := doAlu .sbc (.r8 (.reg .e)) s

/-- `SBC A,H` (R189) -/
def execSbc_H (s : State) : Result := doAlu .sbc (.r8 (.reg .h)) s

/-- `SBC A,L` (R189) -/
def execSbc_L (s : State) : Result := doAlu .sbc (.r8 (.reg .l)) s

/-- `SBC A,(HL)` (R189) -/
def execSbc_atHL (s : State) : Result := doAlu .sbc (.r8 .atHL) s

/-- `SBC A,A` (R189) -/
def execSbc_A (s : State) : Result := doAlu .sbc (.r8 (.reg .a)) s

/-- `AND B` (R190) -/
def execAnd_B (s : State) : Result := doAlu .and (.r8 (.reg .b)) s

/-- `AND C` (R190) -/
def execAnd_C (s : State) : Result := doAlu .and (.r8 (.reg .c)) s

/-- `AND D` (R190) -/
def execAnd_D (s : State) : Result := doAlu .and (.r8 (.reg .d)) s

/-- `AND E` (R190) -/
def execAnd_E (s : State) : Result := doAlu .and (.r8 (.reg .e)) s

/-- `AND H` (R190) -/
def execAnd_H (s : State) : Result := doAlu .and (.r8 (.reg .h)) s

/-- `AND L` (R190) -/
def execAnd_L (s : State) : Result := doAlu .and (.r8 (.reg .l)) s

/-- `AND (HL)` (R190) -/
def execAnd_atHL (s : State) : Result := doAlu .and (.r8 .atHL) s

/-- `AND A` (R190) -/
def execAnd_A (s : State) : Result := doAlu .and (.r8 (.reg .a)) s

/-- `XOR B` (R191) -/
def execXor_B (s : State) : Result := doAlu .xor (.r8 (.reg .b)) s

/-- `XOR C` (R191) -/
def execXor_C (s : State) : Result := doAlu .xor (.r8 (.reg .c)) s

/-- `XOR D` (R191) -/
def execXor_D (s : State) : Result := doAlu .xor (.r8 (.reg .d)) s

/-- `XOR E` (R191) -/
def execXor_E (s : State) : Result := doAlu .xor (.r8 (.reg .e)) s

/-- `XOR H` (R191) -/
def execXor_H (s : State) : Result := doAlu .xor (.r8 (.reg .h)) s

/-- `XOR L` (R191) -/
def execXor_L (s : State) : Result := doAlu .xor (.r8 (.reg .l)) s

/-- `XOR (HL)` (R191) -/
def execXor_atHL (s : State) : Result := doAlu .xor (.r8 .atHL) s

/-- `XOR A` (R191) -/
def execXor_A (s : State) : Result := doAlu .xor (.r8 (.reg .a)) s

/-- `OR B` (R192) -/
def execOr_B (s : State) : Result := doAlu .or (.r8 (.reg .b)) s

/-- `OR C` (R192) -/
def execOr_C (s : State) : Result := doAlu .or (.r8 (.reg .c)) s

/-- `OR D` (R192) -/
def execOr_D (s : State) : Result := doAlu .or (.r8 (.reg .d)) s

/-- `OR E` (R192) -/
def execOr_E (s : State) : Result := doAlu .or (.r8 (.reg .e)) s

/-- `OR H` (R192) -/
def execOr_H (s : State) : Result := doAlu .or (.r8 (.reg .h)) s

/-- `OR L` (R192) -/
def execOr_L (s : State) : Result := doAlu .or (.r8 (.reg .l)) s

/-- `OR (HL)` (R192) -/
def execOr_atHL (s : State) : Result := doAlu .or (.r8 .atHL) s

/-- `OR A` (R192) -/
def execOr_A (s : State) : Result := doAlu .or (.r8 (.reg .a)) s

/-- `CP B` (R193) -/
def execCp_B (s : State) : Result := doAlu .cp (.r8 (.reg .b)) s

/-- `CP C` (R193) -/
def execCp_C (s : State) : Result := doAlu .cp (.r8 (.reg .c)) s

/-- `CP D` (R193) -/
def execCp_D (s : State) : Result := doAlu .cp (.r8 (.reg .d)) s

/-- `CP E` (R193) -/
def execCp_E (s : State) : Result := doAlu .cp (.r8 (.reg .e)) s

/-- `CP H` (R193) -/
def execCp_H (s : State) : Result := doAlu .cp (.r8 (.reg .h)) s

/-- `CP L` (R193) -/
def execCp_L (s : State) : Result := doAlu .cp (.r8 (.reg .l)) s

/-- `CP (HL)` (R193) -/
def execCp_atHL (s : State) : Result := doAlu .cp (.r8 .atHL) s

/-- `CP A` (R193) -/
def execCp_A (s : State) : Result := doAlu .cp (.r8 (.reg .a)) s

/-- `ADD A,n` (R186) -/
def execAdd_n (n : Byte) (s : State) : Result := doAlu .add (.imm n) s

/-- `ADC A,n` (R187) -/
def execAdc_n (n : Byte) (s : State) : Result := doAlu .adc (.imm n) s

/-- `SUB n` (R188) -/
def execSub_n (n : Byte) (s : State) : Result := doAlu .sub (.imm n) s

/-- `SBC A,n` (R189) -/
def execSbc_n (n : Byte) (s : State) : Result := doAlu .sbc (.imm n) s

/-- `AND n` (R190) -/
def execAnd_n (n : Byte) (s : State) : Result := doAlu .and (.imm n) s

/-- `XOR n` (R191) -/
def execXor_n (n : Byte) (s : State) : Result := doAlu .xor (.imm n) s

/-- `OR n` (R192) -/
def execOr_n (n : Byte) (s : State) : Result := doAlu .or (.imm n) s

/-- `CP n` (R193) -/
def execCp_n (n : Byte) (s : State) : Result := doAlu .cp (.imm n) s

end Sys2Proof.Machine
end

