-- ==== Sys2Proof/Machine/Control.lean ====
section
/-! DEFINITION. Control transfer (45_control.md): the shared operations, then one meaning per instruction. The state a meaning
is given has PC past the instruction (R25); an unconditional form has no condition. -/

namespace Sys2Proof.Machine

/-- Whether a jump, call or return is taken (R117). -/
def taken (cc : Option Cond) (f : Byte) : Bool :=
  match cc with
  | none => true
  | some c => c.holds f

/-- `JP nn`, `JP cc,nn` (R250, R251). -/
def doJp (cc : Option Cond) (nn : Word) (s : State) : Result :=
  .next (if taken cc s.cpu.f then (s.setPc nn).tick Config.cycJp else s.tick Config.cycJpNot)

/-- `JP HL` (R252): no memory is read. -/
def doJpHl (s : State) : Result := .next ((s.setPc s.cpu.hl).tick Config.cycJpHl)

/-- `JR e`, `JR cc,e` (R253, R254). -/
def doJr (cc : Option Cond) (e : Byte) (s : State) : Result :=
  .next (if taken cc s.cpu.f then (s.setPc (s.cpu.pc + sext16 e)).tick Config.cycJr else s.tick Config.cycJrNot)

/-- `CALL nn`, `CALL cc,nn` (R255, R256). -/
def doCall (cc : Option Cond) (nn : Word) (s : State) : Result :=
  .next (if taken cc s.cpu.f then (s.call nn).tick Config.cycCall else s.tick Config.cycCallNot)

/-- `RET`, `RET cc` (R257, R258): a taken conditional return costs four cycles more. -/
def doRet (cc : Option Cond) (s : State) : Result :=
  .next (if taken cc s.cpu.f then s.ret.tick (if cc = none then Config.cycRet else Config.cycRetCond)
    else s.tick Config.cycRetNot)

/-- `RETI` (R259). -/
def doReti (s : State) : Result := .next (s.retInterrupt.tick Config.cycReti)

/-- `RST t` (R260). -/
def doRst (t : Nat) (s : State) : Result := .next ((s.call (BitVec.ofNat 16 (t * 8))).tick Config.cycRst)

/-- `JR e` (R253) -/
def execJr_e (e : Byte) (s : State) : Result := doJr none e s

/-- `JR NZ,e` (R254) -/
def execJr_NZ_e (e : Byte) (s : State) : Result := doJr (some .nz) e s

/-- `JR Z,e` (R254) -/
def execJr_Z_e (e : Byte) (s : State) : Result := doJr (some .z) e s

/-- `JR NC,e` (R254) -/
def execJr_NC_e (e : Byte) (s : State) : Result := doJr (some .nc) e s

/-- `JR C,e` (R254) -/
def execJr_C_e (e : Byte) (s : State) : Result := doJr (some .c) e s

/-- `RET NZ` (R258) -/
def execRet_NZ (s : State) : Result := doRet (some .nz) s

/-- `JP NZ,nn` (R251) -/
def execJp_NZ_nn (nn : Word) (s : State) : Result := doJp (some .nz) nn s

/-- `JP nn` (R250) -/
def execJp_nn (nn : Word) (s : State) : Result := doJp none nn s

/-- `CALL NZ,nn` (R256) -/
def execCall_NZ_nn (nn : Word) (s : State) : Result := doCall (some .nz) nn s

/-- `RST 0x00` (R260) -/
def execRst_00 (s : State) : Result := doRst 0 s

/-- `RET Z` (R258) -/
def execRet_Z (s : State) : Result := doRet (some .z) s

/-- `RET` (R257) -/
def execRet (s : State) : Result := doRet none s

/-- `JP Z,nn` (R251) -/
def execJp_Z_nn (nn : Word) (s : State) : Result := doJp (some .z) nn s

/-- `CALL Z,nn` (R256) -/
def execCall_Z_nn (nn : Word) (s : State) : Result := doCall (some .z) nn s

/-- `CALL nn` (R255) -/
def execCall_nn (nn : Word) (s : State) : Result := doCall none nn s

/-- `RST 0x08` (R260) -/
def execRst_08 (s : State) : Result := doRst 1 s

/-- `RET NC` (R258) -/
def execRet_NC (s : State) : Result := doRet (some .nc) s

/-- `JP NC,nn` (R251) -/
def execJp_NC_nn (nn : Word) (s : State) : Result := doJp (some .nc) nn s

/-- `CALL NC,nn` (R256) -/
def execCall_NC_nn (nn : Word) (s : State) : Result := doCall (some .nc) nn s

/-- `RST 0x10` (R260) -/
def execRst_10 (s : State) : Result := doRst 2 s

/-- `RET C` (R258) -/
def execRet_C (s : State) : Result := doRet (some .c) s

/-- `RETI` (R259) -/
def execReti (s : State) : Result := doReti s

/-- `JP C,nn` (R251) -/
def execJp_C_nn (nn : Word) (s : State) : Result := doJp (some .c) nn s

/-- `CALL C,nn` (R256) -/
def execCall_C_nn (nn : Word) (s : State) : Result := doCall (some .c) nn s

/-- `RST 0x18` (R260) -/
def execRst_18 (s : State) : Result := doRst 3 s

/-- `RST 0x20` (R260) -/
def execRst_20 (s : State) : Result := doRst 4 s

/-- `JP HL` (R252) -/
def execJp_HL (s : State) : Result := doJpHl s

/-- `RST 0x28` (R260) -/
def execRst_28 (s : State) : Result := doRst 5 s

/-- `RST 0x30` (R260) -/
def execRst_30 (s : State) : Result := doRst 6 s

/-- `RST 0x38` (R260) -/
def execRst_38 (s : State) : Result := doRst 7 s

end Sys2Proof.Machine
end

