-- ==== Sys2Proof/Machine/Load16.lean ====
section
/-! DEFINITION. The 16-bit loads and the stack (41_load16_stack.md): the shared operations, then one meaning per
instruction. -/

namespace Sys2Proof.Machine

/-- `LD rr,nn` (R170). -/
def doLd16 (p : R16) (nn : Word) (s : State) : Result :=
  .next ((s.setCpu (s.cpu.setReg16 p nn)).tick Config.cycLd16Imm)

/-- `LD (nn),SP` (R171). -/
def doLdAbsSp (nn : Word) (s : State) : Result := .next ((s.write16 nn s.cpu.sp).tick Config.cycLdAbsSp)

/-- `LD SP,HL` (R172). -/
def doLdSpHl (s : State) : Result := .next ((s.setSp s.cpu.hl).tick Config.cycLdSpHl)

/-- `PUSH` (R173). -/
def doPush (p : R16Stk) (s : State) : Result := .next ((s.push16 (s.cpu.stk p)).tick Config.cycPush)

/-- `POP` (R174, R175). -/
def doPop (p : R16Stk) (s : State) : Result :=
  let t := s.pop16.2
  .next ((t.setCpu (t.cpu.setStk p s.pop16.1)).tick Config.cycPop)

/-- `LD BC,nn` (R170) -/
def execLd_BC_nn (nn : Word) (s : State) : Result := doLd16 .bc nn s

/-- `LD (nn),SP` (R171) -/
def execLd_atNN_SP (nn : Word) (s : State) : Result := doLdAbsSp nn s

/-- `LD DE,nn` (R170) -/
def execLd_DE_nn (nn : Word) (s : State) : Result := doLd16 .de nn s

/-- `LD HL,nn` (R170) -/
def execLd_HL_nn (nn : Word) (s : State) : Result := doLd16 .hl nn s

/-- `LD SP,nn` (R170) -/
def execLd_SP_nn (nn : Word) (s : State) : Result := doLd16 .sp nn s

/-- `POP BC` (R174) -/
def execPop_BC (s : State) : Result := doPop .bc s

/-- `PUSH BC` (R173) -/
def execPush_BC (s : State) : Result := doPush .bc s

/-- `POP DE` (R174) -/
def execPop_DE (s : State) : Result := doPop .de s

/-- `PUSH DE` (R173) -/
def execPush_DE (s : State) : Result := doPush .de s

/-- `POP HL` (R174) -/
def execPop_HL (s : State) : Result := doPop .hl s

/-- `PUSH HL` (R173) -/
def execPush_HL (s : State) : Result := doPush .hl s

/-- `POP AF` (R175) -/
def execPop_AF (s : State) : Result := doPop .af s

/-- `PUSH AF` (R173) -/
def execPush_AF (s : State) : Result := doPush .af s

/-- `LD SP,HL` (R172) -/
def execLd_SP_HL (s : State) : Result := doLdSpHl s

end Sys2Proof.Machine
end

