-- ==== Sys2Proof/Machine/Load8.lean ====
section
/-! DEFINITION. The 8-bit loads (40_load8.md): the shared operations, then one meaning per instruction. No load writes a flag
(R204). -/

namespace Sys2Proof.Machine

/-- `LD r,r'`, `LD r,(HL)`, `LD (HL),r` (R140, R142, R143): the source is read before the destination is written. -/
def doLd8 (d src : R8) (s : State) : Result :=
  .next (((s.noteR8 src).setR8 d (s.r8 src)).tick
    (if d = .atHL ∨ src = .atHL then Config.cycLd8Mem else Config.cycLd8Reg))

/-- `LD r,n`, `LD (HL),n` (R141, R144). -/
def doLd8Imm (d : R8) (n : Byte) (s : State) : Result :=
  .next ((s.setR8 d n).tick (if d = .atHL then Config.cycLd8ImmMem else Config.cycLd8ImmReg))

/-- What an accumulator load or store costs (R145 to R158). -/
def accCycles (m : Indirect) : Nat :=
  match m with
  | .bc => Config.cycLdAccInd
  | .de => Config.cycLdAccInd
  | .hlInc => Config.cycLdAccInd
  | .hlDec => Config.cycLdAccInd
  | .abs _ => Config.cycLdAccAbs
  | .high _ => Config.cycLdAccHigh
  | .highC => Config.cycLdAccInd

/-- `LD A,(BC)`, `(DE)`, `(HL+)`, `(HL-)`, `(nn)`, `(C)` and `LDH A,(n)` (R145, R146, R149, R151, R153, R155, R156). -/
def doLoadA (m : Indirect) (s : State) : Result :=
  .next ((((s.noteRead (s.indirectAddr m)).setA (s.read (s.indirectAddr m))).afterIndirect m).tick (accCycles m))

/-- The stores of A (R147, R148, R150, R152, R154, R157, R158): HL moves whether or not the write was dropped. -/
def doStoreA (m : Indirect) (s : State) : Result :=
  .next (((s.write (s.indirectAddr m) s.cpu.a).afterIndirect m).tick (accCycles m))

/-- `LD (BC),A` (R147) -/
def execLd_atBC_A (s : State) : Result := doStoreA .bc s

/-- `LD B,n` (R141) -/
def execLd_B_n (n : Byte) (s : State) : Result := doLd8Imm (.reg .b) n s

/-- `LD A,(BC)` (R145) -/
def execLd_A_atBC (s : State) : Result := doLoadA .bc s

/-- `LD C,n` (R141) -/
def execLd_C_n (n : Byte) (s : State) : Result := doLd8Imm (.reg .c) n s

/-- `LD (DE),A` (R148) -/
def execLd_atDE_A (s : State) : Result := doStoreA .de s

/-- `LD D,n` (R141) -/
def execLd_D_n (n : Byte) (s : State) : Result := doLd8Imm (.reg .d) n s

/-- `LD A,(DE)` (R146) -/
def execLd_A_atDE (s : State) : Result := doLoadA .de s

/-- `LD E,n` (R141) -/
def execLd_E_n (n : Byte) (s : State) : Result := doLd8Imm (.reg .e) n s

/-- `LD (HL+),A` (R157) -/
def execLd_atHLinc_A (s : State) : Result := doStoreA .hlInc s

/-- `LD H,n` (R141) -/
def execLd_H_n (n : Byte) (s : State) : Result := doLd8Imm (.reg .h) n s

/-- `LD A,(HL+)` (R155) -/
def execLd_A_atHLinc (s : State) : Result := doLoadA .hlInc s

/-- `LD L,n` (R141) -/
def execLd_L_n (n : Byte) (s : State) : Result := doLd8Imm (.reg .l) n s

/-- `LD (HL-),A` (R158) -/
def execLd_atHLdec_A (s : State) : Result := doStoreA .hlDec s

/-- `LD (HL),n` (R144) -/
def execLd_atHL_n (n : Byte) (s : State) : Result := doLd8Imm .atHL n s

/-- `LD A,(HL-)` (R156) -/
def execLd_A_atHLdec (s : State) : Result := doLoadA .hlDec s

/-- `LD A,n` (R141) -/
def execLd_A_n (n : Byte) (s : State) : Result := doLd8Imm (.reg .a) n s

/-- `LD B,B` (R140) -/
def execLd_B_B (s : State) : Result := doLd8 (.reg .b) (.reg .b) s

/-- `LD B,C` (R140) -/
def execLd_B_C (s : State) : Result := doLd8 (.reg .b) (.reg .c) s

/-- `LD B,D` (R140) -/
def execLd_B_D (s : State) : Result := doLd8 (.reg .b) (.reg .d) s

/-- `LD B,E` (R140) -/
def execLd_B_E (s : State) : Result := doLd8 (.reg .b) (.reg .e) s

/-- `LD B,H` (R140) -/
def execLd_B_H (s : State) : Result := doLd8 (.reg .b) (.reg .h) s

/-- `LD B,L` (R140) -/
def execLd_B_L (s : State) : Result := doLd8 (.reg .b) (.reg .l) s

/-- `LD B,(HL)` (R142) -/
def execLd_B_atHL (s : State) : Result := doLd8 (.reg .b) .atHL s

/-- `LD B,A` (R140) -/
def execLd_B_A (s : State) : Result := doLd8 (.reg .b) (.reg .a) s

/-- `LD C,B` (R140) -/
def execLd_C_B (s : State) : Result := doLd8 (.reg .c) (.reg .b) s

/-- `LD C,C` (R140) -/
def execLd_C_C (s : State) : Result := doLd8 (.reg .c) (.reg .c) s

/-- `LD C,D` (R140) -/
def execLd_C_D (s : State) : Result := doLd8 (.reg .c) (.reg .d) s

/-- `LD C,E` (R140) -/
def execLd_C_E (s : State) : Result := doLd8 (.reg .c) (.reg .e) s

/-- `LD C,H` (R140) -/
def execLd_C_H (s : State) : Result := doLd8 (.reg .c) (.reg .h) s

/-- `LD C,L` (R140) -/
def execLd_C_L (s : State) : Result := doLd8 (.reg .c) (.reg .l) s

/-- `LD C,(HL)` (R142) -/
def execLd_C_atHL (s : State) : Result := doLd8 (.reg .c) .atHL s

/-- `LD C,A` (R140) -/
def execLd_C_A (s : State) : Result := doLd8 (.reg .c) (.reg .a) s

/-- `LD D,B` (R140) -/
def execLd_D_B (s : State) : Result := doLd8 (.reg .d) (.reg .b) s

/-- `LD D,C` (R140) -/
def execLd_D_C (s : State) : Result := doLd8 (.reg .d) (.reg .c) s

/-- `LD D,D` (R140) -/
def execLd_D_D (s : State) : Result := doLd8 (.reg .d) (.reg .d) s

/-- `LD D,E` (R140) -/
def execLd_D_E (s : State) : Result := doLd8 (.reg .d) (.reg .e) s

/-- `LD D,H` (R140) -/
def execLd_D_H (s : State) : Result := doLd8 (.reg .d) (.reg .h) s

/-- `LD D,L` (R140) -/
def execLd_D_L (s : State) : Result := doLd8 (.reg .d) (.reg .l) s

/-- `LD D,(HL)` (R142) -/
def execLd_D_atHL (s : State) : Result := doLd8 (.reg .d) .atHL s

/-- `LD D,A` (R140) -/
def execLd_D_A (s : State) : Result := doLd8 (.reg .d) (.reg .a) s

/-- `LD E,B` (R140) -/
def execLd_E_B (s : State) : Result := doLd8 (.reg .e) (.reg .b) s

/-- `LD E,C` (R140) -/
def execLd_E_C (s : State) : Result := doLd8 (.reg .e) (.reg .c) s

/-- `LD E,D` (R140) -/
def execLd_E_D (s : State) : Result := doLd8 (.reg .e) (.reg .d) s

/-- `LD E,E` (R140) -/
def execLd_E_E (s : State) : Result := doLd8 (.reg .e) (.reg .e) s

/-- `LD E,H` (R140) -/
def execLd_E_H (s : State) : Result := doLd8 (.reg .e) (.reg .h) s

/-- `LD E,L` (R140) -/
def execLd_E_L (s : State) : Result := doLd8 (.reg .e) (.reg .l) s

/-- `LD E,(HL)` (R142) -/
def execLd_E_atHL (s : State) : Result := doLd8 (.reg .e) .atHL s

/-- `LD E,A` (R140) -/
def execLd_E_A (s : State) : Result := doLd8 (.reg .e) (.reg .a) s

/-- `LD H,B` (R140) -/
def execLd_H_B (s : State) : Result := doLd8 (.reg .h) (.reg .b) s

/-- `LD H,C` (R140) -/
def execLd_H_C (s : State) : Result := doLd8 (.reg .h) (.reg .c) s

/-- `LD H,D` (R140) -/
def execLd_H_D (s : State) : Result := doLd8 (.reg .h) (.reg .d) s

/-- `LD H,E` (R140) -/
def execLd_H_E (s : State) : Result := doLd8 (.reg .h) (.reg .e) s

/-- `LD H,H` (R140) -/
def execLd_H_H (s : State) : Result := doLd8 (.reg .h) (.reg .h) s

/-- `LD H,L` (R140) -/
def execLd_H_L (s : State) : Result := doLd8 (.reg .h) (.reg .l) s

/-- `LD H,(HL)` (R142) -/
def execLd_H_atHL (s : State) : Result := doLd8 (.reg .h) .atHL s

/-- `LD H,A` (R140) -/
def execLd_H_A (s : State) : Result := doLd8 (.reg .h) (.reg .a) s

/-- `LD L,B` (R140) -/
def execLd_L_B (s : State) : Result := doLd8 (.reg .l) (.reg .b) s

/-- `LD L,C` (R140) -/
def execLd_L_C (s : State) : Result := doLd8 (.reg .l) (.reg .c) s

/-- `LD L,D` (R140) -/
def execLd_L_D (s : State) : Result := doLd8 (.reg .l) (.reg .d) s

/-- `LD L,E` (R140) -/
def execLd_L_E (s : State) : Result := doLd8 (.reg .l) (.reg .e) s

/-- `LD L,H` (R140) -/
def execLd_L_H (s : State) : Result := doLd8 (.reg .l) (.reg .h) s

/-- `LD L,L` (R140) -/
def execLd_L_L (s : State) : Result := doLd8 (.reg .l) (.reg .l) s

/-- `LD L,(HL)` (R142) -/
def execLd_L_atHL (s : State) : Result := doLd8 (.reg .l) .atHL s

/-- `LD L,A` (R140) -/
def execLd_L_A (s : State) : Result := doLd8 (.reg .l) (.reg .a) s

/-- `LD (HL),B` (R143) -/
def execLd_atHL_B (s : State) : Result := doLd8 .atHL (.reg .b) s

/-- `LD (HL),C` (R143) -/
def execLd_atHL_C (s : State) : Result := doLd8 .atHL (.reg .c) s

/-- `LD (HL),D` (R143) -/
def execLd_atHL_D (s : State) : Result := doLd8 .atHL (.reg .d) s

/-- `LD (HL),E` (R143) -/
def execLd_atHL_E (s : State) : Result := doLd8 .atHL (.reg .e) s

/-- `LD (HL),H` (R143) -/
def execLd_atHL_H (s : State) : Result := doLd8 .atHL (.reg .h) s

/-- `LD (HL),L` (R143) -/
def execLd_atHL_L (s : State) : Result := doLd8 .atHL (.reg .l) s

/-- `LD (HL),A` (R143) -/
def execLd_atHL_A (s : State) : Result := doLd8 .atHL (.reg .a) s

/-- `LD A,B` (R140) -/
def execLd_A_B (s : State) : Result := doLd8 (.reg .a) (.reg .b) s

/-- `LD A,C` (R140) -/
def execLd_A_C (s : State) : Result := doLd8 (.reg .a) (.reg .c) s

/-- `LD A,D` (R140) -/
def execLd_A_D (s : State) : Result := doLd8 (.reg .a) (.reg .d) s

/-- `LD A,E` (R140) -/
def execLd_A_E (s : State) : Result := doLd8 (.reg .a) (.reg .e) s

/-- `LD A,H` (R140) -/
def execLd_A_H (s : State) : Result := doLd8 (.reg .a) (.reg .h) s

/-- `LD A,L` (R140) -/
def execLd_A_L (s : State) : Result := doLd8 (.reg .a) (.reg .l) s

/-- `LD A,(HL)` (R142) -/
def execLd_A_atHL (s : State) : Result := doLd8 (.reg .a) .atHL s

/-- `LD A,A` (R140) -/
def execLd_A_A (s : State) : Result := doLd8 (.reg .a) (.reg .a) s

/-- `LDH (n),A` (R152) -/
def execLdh_atN_A (n : Byte) (s : State) : Result := doStoreA (.high n) s

/-- `LD (C),A` (R154) -/
def execLd_atC_A (s : State) : Result := doStoreA .highC s

/-- `LD (nn),A` (R150) -/
def execLd_atNN_A (nn : Word) (s : State) : Result := doStoreA (.abs nn) s

/-- `LDH A,(n)` (R151) -/
def execLdh_A_atN (n : Byte) (s : State) : Result := doLoadA (.high n) s

/-- `LD A,(C)` (R153) -/
def execLd_A_atC (s : State) : Result := doLoadA .highC s

/-- `LD A,(nn)` (R149) -/
def execLd_A_atNN (nn : Word) (s : State) : Result := doLoadA (.abs nn) s

end Sys2Proof.Machine
end

