-- ==== Sys2Proof/Machine/Rotate.lean ====
section
/-! DEFINITION. Rotates, shifts, swap and bit operations (44_rotate_shift_bit.md): the shared operations, then one meaning
per instruction. -/

namespace Sys2Proof.Machine

/-- `RLCA`, `RRCA`, `RLA`, `RRA`: the rotate of A with Z cleared (R225 to R228). -/
def doRotA (op : RotOp) (s : State) : Result :=
  let o := clearZ (op.compute s.cpu.a s.cpu.f)
  .next (((s.setA o.value).setF o.f).tick Config.cycAcc)

/-- What an extended-table operation that writes its operand costs (R240). -/
def extCycles (r : R8) : Nat := if r = .atHL then Config.cycExtMem else Config.cycExtReg

/-- `RLC`, `RRC`, `RL`, `RR`, `SLA`, `SRA`, `SWAP`, `SRL` (R229 to R236, R240): the flags come from the value read. -/
def doRot (op : RotOp) (r : R8) (s : State) : Result :=
  let o := op.compute (s.r8 r) s.cpu.f
  .next ((((s.noteR8 r).setR8 r o.value).setF o.f).tick (extCycles r))

/-- `BIT b` (R237): nothing but flags is written. -/
def doBit (b : Nat) (r : R8) (s : State) : Result :=
  .next (((s.noteR8 r).setF (bitFlags (s.r8 r) s.cpu.f b)).tick
    (if r = .atHL then Config.cycBitMem else Config.cycExtReg))

/-- `RES b` (R238): no flag; the write is always performed. -/
def doRes (b : Nat) (r : R8) (s : State) : Result :=
  .next (((s.noteR8 r).setR8 r (resBit (s.r8 r) b)).tick (extCycles r))

/-- `SET b` (R239): no flag; the write is always performed. -/
def doSet (b : Nat) (r : R8) (s : State) : Result :=
  .next (((s.noteR8 r).setR8 r (setBit (s.r8 r) b)).tick (extCycles r))

/-- `RLCA` (R225) -/
def execRlca (s : State) : Result := doRotA .rlc s

/-- `RRCA` (R226) -/
def execRrca (s : State) : Result := doRotA .rrc s

/-- `RLA` (R227) -/
def execRla (s : State) : Result := doRotA .rl s

/-- `RRA` (R228) -/
def execRra (s : State) : Result := doRotA .rr s

/-- `RLC B` (R229) -/
def execRlc_B (s : State) : Result := doRot .rlc (.reg .b) s

/-- `RLC C` (R229) -/
def execRlc_C (s : State) : Result := doRot .rlc (.reg .c) s

/-- `RLC D` (R229) -/
def execRlc_D (s : State) : Result := doRot .rlc (.reg .d) s

/-- `RLC E` (R229) -/
def execRlc_E (s : State) : Result := doRot .rlc (.reg .e) s

/-- `RLC H` (R229) -/
def execRlc_H (s : State) : Result := doRot .rlc (.reg .h) s

/-- `RLC L` (R229) -/
def execRlc_L (s : State) : Result := doRot .rlc (.reg .l) s

/-- `RLC (HL)` (R229) -/
def execRlc_atHL (s : State) : Result := doRot .rlc .atHL s

/-- `RLC A` (R229) -/
def execRlc_A (s : State) : Result := doRot .rlc (.reg .a) s

/-- `RRC B` (R230) -/
def execRrc_B (s : State) : Result := doRot .rrc (.reg .b) s

/-- `RRC C` (R230) -/
def execRrc_C (s : State) : Result := doRot .rrc (.reg .c) s

/-- `RRC D` (R230) -/
def execRrc_D (s : State) : Result := doRot .rrc (.reg .d) s

/-- `RRC E` (R230) -/
def execRrc_E (s : State) : Result := doRot .rrc (.reg .e) s

/-- `RRC H` (R230) -/
def execRrc_H (s : State) : Result := doRot .rrc (.reg .h) s

/-- `RRC L` (R230) -/
def execRrc_L (s : State) : Result := doRot .rrc (.reg .l) s

/-- `RRC (HL)` (R230) -/
def execRrc_atHL (s : State) : Result := doRot .rrc .atHL s

/-- `RRC A` (R230) -/
def execRrc_A (s : State) : Result := doRot .rrc (.reg .a) s

/-- `RL B` (R231) -/
def execRl_B (s : State) : Result := doRot .rl (.reg .b) s

/-- `RL C` (R231) -/
def execRl_C (s : State) : Result := doRot .rl (.reg .c) s

/-- `RL D` (R231) -/
def execRl_D (s : State) : Result := doRot .rl (.reg .d) s

/-- `RL E` (R231) -/
def execRl_E (s : State) : Result := doRot .rl (.reg .e) s

/-- `RL H` (R231) -/
def execRl_H (s : State) : Result := doRot .rl (.reg .h) s

/-- `RL L` (R231) -/
def execRl_L (s : State) : Result := doRot .rl (.reg .l) s

/-- `RL (HL)` (R231) -/
def execRl_atHL (s : State) : Result := doRot .rl .atHL s

/-- `RL A` (R231) -/
def execRl_A (s : State) : Result := doRot .rl (.reg .a) s

/-- `RR B` (R232) -/
def execRr_B (s : State) : Result := doRot .rr (.reg .b) s

/-- `RR C` (R232) -/
def execRr_C (s : State) : Result := doRot .rr (.reg .c) s

/-- `RR D` (R232) -/
def execRr_D (s : State) : Result := doRot .rr (.reg .d) s

/-- `RR E` (R232) -/
def execRr_E (s : State) : Result := doRot .rr (.reg .e) s

/-- `RR H` (R232) -/
def execRr_H (s : State) : Result := doRot .rr (.reg .h) s

/-- `RR L` (R232) -/
def execRr_L (s : State) : Result := doRot .rr (.reg .l) s

/-- `RR (HL)` (R232) -/
def execRr_atHL (s : State) : Result := doRot .rr .atHL s

/-- `RR A` (R232) -/
def execRr_A (s : State) : Result := doRot .rr (.reg .a) s

/-- `SLA B` (R233) -/
def execSla_B (s : State) : Result := doRot .sla (.reg .b) s

/-- `SLA C` (R233) -/
def execSla_C (s : State) : Result := doRot .sla (.reg .c) s

/-- `SLA D` (R233) -/
def execSla_D (s : State) : Result := doRot .sla (.reg .d) s

/-- `SLA E` (R233) -/
def execSla_E (s : State) : Result := doRot .sla (.reg .e) s

/-- `SLA H` (R233) -/
def execSla_H (s : State) : Result := doRot .sla (.reg .h) s

/-- `SLA L` (R233) -/
def execSla_L (s : State) : Result := doRot .sla (.reg .l) s

/-- `SLA (HL)` (R233) -/
def execSla_atHL (s : State) : Result := doRot .sla .atHL s

/-- `SLA A` (R233) -/
def execSla_A (s : State) : Result := doRot .sla (.reg .a) s

/-- `SRA B` (R234) -/
def execSra_B (s : State) : Result := doRot .sra (.reg .b) s

/-- `SRA C` (R234) -/
def execSra_C (s : State) : Result := doRot .sra (.reg .c) s

/-- `SRA D` (R234) -/
def execSra_D (s : State) : Result := doRot .sra (.reg .d) s

/-- `SRA E` (R234) -/
def execSra_E (s : State) : Result := doRot .sra (.reg .e) s

/-- `SRA H` (R234) -/
def execSra_H (s : State) : Result := doRot .sra (.reg .h) s

/-- `SRA L` (R234) -/
def execSra_L (s : State) : Result := doRot .sra (.reg .l) s

/-- `SRA (HL)` (R234) -/
def execSra_atHL (s : State) : Result := doRot .sra .atHL s

/-- `SRA A` (R234) -/
def execSra_A (s : State) : Result := doRot .sra (.reg .a) s

/-- `SWAP B` (R235) -/
def execSwap_B (s : State) : Result := doRot .swap (.reg .b) s

/-- `SWAP C` (R235) -/
def execSwap_C (s : State) : Result := doRot .swap (.reg .c) s

/-- `SWAP D` (R235) -/
def execSwap_D (s : State) : Result := doRot .swap (.reg .d) s

/-- `SWAP E` (R235) -/
def execSwap_E (s : State) : Result := doRot .swap (.reg .e) s

/-- `SWAP H` (R235) -/
def execSwap_H (s : State) : Result := doRot .swap (.reg .h) s

/-- `SWAP L` (R235) -/
def execSwap_L (s : State) : Result := doRot .swap (.reg .l) s

/-- `SWAP (HL)` (R235) -/
def execSwap_atHL (s : State) : Result := doRot .swap .atHL s

/-- `SWAP A` (R235) -/
def execSwap_A (s : State) : Result := doRot .swap (.reg .a) s

/-- `SRL B` (R236) -/
def execSrl_B (s : State) : Result := doRot .srl (.reg .b) s

/-- `SRL C` (R236) -/
def execSrl_C (s : State) : Result := doRot .srl (.reg .c) s

/-- `SRL D` (R236) -/
def execSrl_D (s : State) : Result := doRot .srl (.reg .d) s

/-- `SRL E` (R236) -/
def execSrl_E (s : State) : Result := doRot .srl (.reg .e) s

/-- `SRL H` (R236) -/
def execSrl_H (s : State) : Result := doRot .srl (.reg .h) s

/-- `SRL L` (R236) -/
def execSrl_L (s : State) : Result := doRot .srl (.reg .l) s

/-- `SRL (HL)` (R236) -/
def execSrl_atHL (s : State) : Result := doRot .srl .atHL s

/-- `SRL A` (R236) -/
def execSrl_A (s : State) : Result := doRot .srl (.reg .a) s

/-- `BIT 0,B` (R237) -/
def execBit_0_B (s : State) : Result := doBit 0 (.reg .b) s

/-- `BIT 0,C` (R237) -/
def execBit_0_C (s : State) : Result := doBit 0 (.reg .c) s

/-- `BIT 0,D` (R237) -/
def execBit_0_D (s : State) : Result := doBit 0 (.reg .d) s

/-- `BIT 0,E` (R237) -/
def execBit_0_E (s : State) : Result := doBit 0 (.reg .e) s

/-- `BIT 0,H` (R237) -/
def execBit_0_H (s : State) : Result := doBit 0 (.reg .h) s

/-- `BIT 0,L` (R237) -/
def execBit_0_L (s : State) : Result := doBit 0 (.reg .l) s

/-- `BIT 0,(HL)` (R237) -/
def execBit_0_atHL (s : State) : Result := doBit 0 .atHL s

/-- `BIT 0,A` (R237) -/
def execBit_0_A (s : State) : Result := doBit 0 (.reg .a) s

/-- `BIT 1,B` (R237) -/
def execBit_1_B (s : State) : Result := doBit 1 (.reg .b) s

/-- `BIT 1,C` (R237) -/
def execBit_1_C (s : State) : Result := doBit 1 (.reg .c) s

/-- `BIT 1,D` (R237) -/
def execBit_1_D (s : State) : Result := doBit 1 (.reg .d) s

/-- `BIT 1,E` (R237) -/
def execBit_1_E (s : State) : Result := doBit 1 (.reg .e) s

/-- `BIT 1,H` (R237) -/
def execBit_1_H (s : State) : Result := doBit 1 (.reg .h) s

/-- `BIT 1,L` (R237) -/
def execBit_1_L (s : State) : Result := doBit 1 (.reg .l) s

/-- `BIT 1,(HL)` (R237) -/
def execBit_1_atHL (s : State) : Result := doBit 1 .atHL s

/-- `BIT 1,A` (R237) -/
def execBit_1_A (s : State) : Result := doBit 1 (.reg .a) s

/-- `BIT 2,B` (R237) -/
def execBit_2_B (s : State) : Result := doBit 2 (.reg .b) s

/-- `BIT 2,C` (R237) -/
def execBit_2_C (s : State) : Result := doBit 2 (.reg .c) s

/-- `BIT 2,D` (R237) -/
def execBit_2_D (s : State) : Result := doBit 2 (.reg .d) s

/-- `BIT 2,E` (R237) -/
def execBit_2_E (s : State) : Result := doBit 2 (.reg .e) s

/-- `BIT 2,H` (R237) -/
def execBit_2_H (s : State) : Result := doBit 2 (.reg .h) s

/-- `BIT 2,L` (R237) -/
def execBit_2_L (s : State) : Result := doBit 2 (.reg .l) s

/-- `BIT 2,(HL)` (R237) -/
def execBit_2_atHL (s : State) : Result := doBit 2 .atHL s

/-- `BIT 2,A` (R237) -/
def execBit_2_A (s : State) : Result := doBit 2 (.reg .a) s

/-- `BIT 3,B` (R237) -/
def execBit_3_B (s : State) : Result := doBit 3 (.reg .b) s

/-- `BIT 3,C` (R237) -/
def execBit_3_C (s : State) : Result := doBit 3 (.reg .c) s

/-- `BIT 3,D` (R237) -/
def execBit_3_D (s : State) : Result := doBit 3 (.reg .d) s

/-- `BIT 3,E` (R237) -/
def execBit_3_E (s : State) : Result := doBit 3 (.reg .e) s

/-- `BIT 3,H` (R237) -/
def execBit_3_H (s : State) : Result := doBit 3 (.reg .h) s

/-- `BIT 3,L` (R237) -/
def execBit_3_L (s : State) : Result := doBit 3 (.reg .l) s

/-- `BIT 3,(HL)` (R237) -/
def execBit_3_atHL (s : State) : Result := doBit 3 .atHL s

/-- `BIT 3,A` (R237) -/
def execBit_3_A (s : State) : Result := doBit 3 (.reg .a) s

/-- `BIT 4,B` (R237) -/
def execBit_4_B (s : State) : Result := doBit 4 (.reg .b) s

/-- `BIT 4,C` (R237) -/
def execBit_4_C (s : State) : Result := doBit 4 (.reg .c) s

/-- `BIT 4,D` (R237) -/
def execBit_4_D (s : State) : Result := doBit 4 (.reg .d) s

/-- `BIT 4,E` (R237) -/
def execBit_4_E (s : State) : Result := doBit 4 (.reg .e) s

/-- `BIT 4,H` (R237) -/
def execBit_4_H (s : State) : Result := doBit 4 (.reg .h) s

/-- `BIT 4,L` (R237) -/
def execBit_4_L (s : State) : Result := doBit 4 (.reg .l) s

/-- `BIT 4,(HL)` (R237) -/
def execBit_4_atHL (s : State) : Result := doBit 4 .atHL s

/-- `BIT 4,A` (R237) -/
def execBit_4_A (s : State) : Result := doBit 4 (.reg .a) s

/-- `BIT 5,B` (R237) -/
def execBit_5_B (s : State) : Result := doBit 5 (.reg .b) s

/-- `BIT 5,C` (R237) -/
def execBit_5_C (s : State) : Result := doBit 5 (.reg .c) s

/-- `BIT 5,D` (R237) -/
def execBit_5_D (s : State) : Result := doBit 5 (.reg .d) s

/-- `BIT 5,E` (R237) -/
def execBit_5_E (s : State) : Result := doBit 5 (.reg .e) s

/-- `BIT 5,H` (R237) -/
def execBit_5_H (s : State) : Result := doBit 5 (.reg .h) s

/-- `BIT 5,L` (R237) -/
def execBit_5_L (s : State) : Result := doBit 5 (.reg .l) s

/-- `BIT 5,(HL)` (R237) -/
def execBit_5_atHL (s : State) : Result := doBit 5 .atHL s

/-- `BIT 5,A` (R237) -/
def execBit_5_A (s : State) : Result := doBit 5 (.reg .a) s

/-- `BIT 6,B` (R237) -/
def execBit_6_B (s : State) : Result := doBit 6 (.reg .b) s

/-- `BIT 6,C` (R237) -/
def execBit_6_C (s : State) : Result := doBit 6 (.reg .c) s

/-- `BIT 6,D` (R237) -/
def execBit_6_D (s : State) : Result := doBit 6 (.reg .d) s

/-- `BIT 6,E` (R237) -/
def execBit_6_E (s : State) : Result := doBit 6 (.reg .e) s

/-- `BIT 6,H` (R237) -/
def execBit_6_H (s : State) : Result := doBit 6 (.reg .h) s

/-- `BIT 6,L` (R237) -/
def execBit_6_L (s : State) : Result := doBit 6 (.reg .l) s

/-- `BIT 6,(HL)` (R237) -/
def execBit_6_atHL (s : State) : Result := doBit 6 .atHL s

/-- `BIT 6,A` (R237) -/
def execBit_6_A (s : State) : Result := doBit 6 (.reg .a) s

/-- `BIT 7,B` (R237) -/
def execBit_7_B (s : State) : Result := doBit 7 (.reg .b) s

/-- `BIT 7,C` (R237) -/
def execBit_7_C (s : State) : Result := doBit 7 (.reg .c) s

/-- `BIT 7,D` (R237) -/
def execBit_7_D (s : State) : Result := doBit 7 (.reg .d) s

/-- `BIT 7,E` (R237) -/
def execBit_7_E (s : State) : Result := doBit 7 (.reg .e) s

/-- `BIT 7,H` (R237) -/
def execBit_7_H (s : State) : Result := doBit 7 (.reg .h) s

/-- `BIT 7,L` (R237) -/
def execBit_7_L (s : State) : Result := doBit 7 (.reg .l) s

/-- `BIT 7,(HL)` (R237) -/
def execBit_7_atHL (s : State) : Result := doBit 7 .atHL s

/-- `BIT 7,A` (R237) -/
def execBit_7_A (s : State) : Result := doBit 7 (.reg .a) s

/-- `RES 0,B` (R238) -/
def execRes_0_B (s : State) : Result := doRes 0 (.reg .b) s

/-- `RES 0,C` (R238) -/
def execRes_0_C (s : State) : Result := doRes 0 (.reg .c) s

/-- `RES 0,D` (R238) -/
def execRes_0_D (s : State) : Result := doRes 0 (.reg .d) s

/-- `RES 0,E` (R238) -/
def execRes_0_E (s : State) : Result := doRes 0 (.reg .e) s

/-- `RES 0,H` (R238) -/
def execRes_0_H (s : State) : Result := doRes 0 (.reg .h) s

/-- `RES 0,L` (R238) -/
def execRes_0_L (s : State) : Result := doRes 0 (.reg .l) s

/-- `RES 0,(HL)` (R238) -/
def execRes_0_atHL (s : State) : Result := doRes 0 .atHL s

/-- `RES 0,A` (R238) -/
def execRes_0_A (s : State) : Result := doRes 0 (.reg .a) s

/-- `RES 1,B` (R238) -/
def execRes_1_B (s : State) : Result := doRes 1 (.reg .b) s

/-- `RES 1,C` (R238) -/
def execRes_1_C (s : State) : Result := doRes 1 (.reg .c) s

/-- `RES 1,D` (R238) -/
def execRes_1_D (s : State) : Result := doRes 1 (.reg .d) s

/-- `RES 1,E` (R238) -/
def execRes_1_E (s : State) : Result := doRes 1 (.reg .e) s

/-- `RES 1,H` (R238) -/
def execRes_1_H (s : State) : Result := doRes 1 (.reg .h) s

/-- `RES 1,L` (R238) -/
def execRes_1_L (s : State) : Result := doRes 1 (.reg .l) s

/-- `RES 1,(HL)` (R238) -/
def execRes_1_atHL (s : State) : Result := doRes 1 .atHL s

/-- `RES 1,A` (R238) -/
def execRes_1_A (s : State) : Result := doRes 1 (.reg .a) s

/-- `RES 2,B` (R238) -/
def execRes_2_B (s : State) : Result := doRes 2 (.reg .b) s

/-- `RES 2,C` (R238) -/
def execRes_2_C (s : State) : Result := doRes 2 (.reg .c) s

/-- `RES 2,D` (R238) -/
def execRes_2_D (s : State) : Result := doRes 2 (.reg .d) s

/-- `RES 2,E` (R238) -/
def execRes_2_E (s : State) : Result := doRes 2 (.reg .e) s

/-- `RES 2,H` (R238) -/
def execRes_2_H (s : State) : Result := doRes 2 (.reg .h) s

/-- `RES 2,L` (R238) -/
def execRes_2_L (s : State) : Result := doRes 2 (.reg .l) s

/-- `RES 2,(HL)` (R238) -/
def execRes_2_atHL (s : State) : Result := doRes 2 .atHL s

/-- `RES 2,A` (R238) -/
def execRes_2_A (s : State) : Result := doRes 2 (.reg .a) s

/-- `RES 3,B` (R238) -/
def execRes_3_B (s : State) : Result := doRes 3 (.reg .b) s

/-- `RES 3,C` (R238) -/
def execRes_3_C (s : State) : Result := doRes 3 (.reg .c) s

/-- `RES 3,D` (R238) -/
def execRes_3_D (s : State) : Result := doRes 3 (.reg .d) s

/-- `RES 3,E` (R238) -/
def execRes_3_E (s : State) : Result := doRes 3 (.reg .e) s

/-- `RES 3,H` (R238) -/
def execRes_3_H (s : State) : Result := doRes 3 (.reg .h) s

/-- `RES 3,L` (R238) -/
def execRes_3_L (s : State) : Result := doRes 3 (.reg .l) s

/-- `RES 3,(HL)` (R238) -/
def execRes_3_atHL (s : State) : Result := doRes 3 .atHL s

/-- `RES 3,A` (R238) -/
def execRes_3_A (s : State) : Result := doRes 3 (.reg .a) s

/-- `RES 4,B` (R238) -/
def execRes_4_B (s : State) : Result := doRes 4 (.reg .b) s

/-- `RES 4,C` (R238) -/
def execRes_4_C (s : State) : Result := doRes 4 (.reg .c) s

/-- `RES 4,D` (R238) -/
def execRes_4_D (s : State) : Result := doRes 4 (.reg .d) s

/-- `RES 4,E` (R238) -/
def execRes_4_E (s : State) : Result := doRes 4 (.reg .e) s

/-- `RES 4,H` (R238) -/
def execRes_4_H (s : State) : Result := doRes 4 (.reg .h) s

/-- `RES 4,L` (R238) -/
def execRes_4_L (s : State) : Result := doRes 4 (.reg .l) s

/-- `RES 4,(HL)` (R238) -/
def execRes_4_atHL (s : State) : Result := doRes 4 .atHL s

/-- `RES 4,A` (R238) -/
def execRes_4_A (s : State) : Result := doRes 4 (.reg .a) s

/-- `RES 5,B` (R238) -/
def execRes_5_B (s : State) : Result := doRes 5 (.reg .b) s

/-- `RES 5,C` (R238) -/
def execRes_5_C (s : State) : Result := doRes 5 (.reg .c) s

/-- `RES 5,D` (R238) -/
def execRes_5_D (s : State) : Result := doRes 5 (.reg .d) s

/-- `RES 5,E` (R238) -/
def execRes_5_E (s : State) : Result := doRes 5 (.reg .e) s

/-- `RES 5,H` (R238) -/
def execRes_5_H (s : State) : Result := doRes 5 (.reg .h) s

/-- `RES 5,L` (R238) -/
def execRes_5_L (s : State) : Result := doRes 5 (.reg .l) s

/-- `RES 5,(HL)` (R238) -/
def execRes_5_atHL (s : State) : Result := doRes 5 .atHL s

/-- `RES 5,A` (R238) -/
def execRes_5_A (s : State) : Result := doRes 5 (.reg .a) s

/-- `RES 6,B` (R238) -/
def execRes_6_B (s : State) : Result := doRes 6 (.reg .b) s

/-- `RES 6,C` (R238) -/
def execRes_6_C (s : State) : Result := doRes 6 (.reg .c) s

/-- `RES 6,D` (R238) -/
def execRes_6_D (s : State) : Result := doRes 6 (.reg .d) s

/-- `RES 6,E` (R238) -/
def execRes_6_E (s : State) : Result := doRes 6 (.reg .e) s

/-- `RES 6,H` (R238) -/
def execRes_6_H (s : State) : Result := doRes 6 (.reg .h) s

/-- `RES 6,L` (R238) -/
def execRes_6_L (s : State) : Result := doRes 6 (.reg .l) s

/-- `RES 6,(HL)` (R238) -/
def execRes_6_atHL (s : State) : Result := doRes 6 .atHL s

/-- `RES 6,A` (R238) -/
def execRes_6_A (s : State) : Result := doRes 6 (.reg .a) s

/-- `RES 7,B` (R238) -/
def execRes_7_B (s : State) : Result := doRes 7 (.reg .b) s

/-- `RES 7,C` (R238) -/
def execRes_7_C (s : State) : Result := doRes 7 (.reg .c) s

/-- `RES 7,D` (R238) -/
def execRes_7_D (s : State) : Result := doRes 7 (.reg .d) s

/-- `RES 7,E` (R238) -/
def execRes_7_E (s : State) : Result := doRes 7 (.reg .e) s

/-- `RES 7,H` (R238) -/
def execRes_7_H (s : State) : Result := doRes 7 (.reg .h) s

/-- `RES 7,L` (R238) -/
def execRes_7_L (s : State) : Result := doRes 7 (.reg .l) s

/-- `RES 7,(HL)` (R238) -/
def execRes_7_atHL (s : State) : Result := doRes 7 .atHL s

/-- `RES 7,A` (R238) -/
def execRes_7_A (s : State) : Result := doRes 7 (.reg .a) s

/-- `SET 0,B` (R239) -/
def execSet_0_B (s : State) : Result := doSet 0 (.reg .b) s

/-- `SET 0,C` (R239) -/
def execSet_0_C (s : State) : Result := doSet 0 (.reg .c) s

/-- `SET 0,D` (R239) -/
def execSet_0_D (s : State) : Result := doSet 0 (.reg .d) s

/-- `SET 0,E` (R239) -/
def execSet_0_E (s : State) : Result := doSet 0 (.reg .e) s

/-- `SET 0,H` (R239) -/
def execSet_0_H (s : State) : Result := doSet 0 (.reg .h) s

/-- `SET 0,L` (R239) -/
def execSet_0_L (s : State) : Result := doSet 0 (.reg .l) s

/-- `SET 0,(HL)` (R239) -/
def execSet_0_atHL (s : State) : Result := doSet 0 .atHL s

/-- `SET 0,A` (R239) -/
def execSet_0_A (s : State) : Result := doSet 0 (.reg .a) s

/-- `SET 1,B` (R239) -/
def execSet_1_B (s : State) : Result := doSet 1 (.reg .b) s

/-- `SET 1,C` (R239) -/
def execSet_1_C (s : State) : Result := doSet 1 (.reg .c) s

/-- `SET 1,D` (R239) -/
def execSet_1_D (s : State) : Result := doSet 1 (.reg .d) s

/-- `SET 1,E` (R239) -/
def execSet_1_E (s : State) : Result := doSet 1 (.reg .e) s

/-- `SET 1,H` (R239) -/
def execSet_1_H (s : State) : Result := doSet 1 (.reg .h) s

/-- `SET 1,L` (R239) -/
def execSet_1_L (s : State) : Result := doSet 1 (.reg .l) s

/-- `SET 1,(HL)` (R239) -/
def execSet_1_atHL (s : State) : Result := doSet 1 .atHL s

/-- `SET 1,A` (R239) -/
def execSet_1_A (s : State) : Result := doSet 1 (.reg .a) s

/-- `SET 2,B` (R239) -/
def execSet_2_B (s : State) : Result := doSet 2 (.reg .b) s

/-- `SET 2,C` (R239) -/
def execSet_2_C (s : State) : Result := doSet 2 (.reg .c) s

/-- `SET 2,D` (R239) -/
def execSet_2_D (s : State) : Result := doSet 2 (.reg .d) s

/-- `SET 2,E` (R239) -/
def execSet_2_E (s : State) : Result := doSet 2 (.reg .e) s

/-- `SET 2,H` (R239) -/
def execSet_2_H (s : State) : Result := doSet 2 (.reg .h) s

/-- `SET 2,L` (R239) -/
def execSet_2_L (s : State) : Result := doSet 2 (.reg .l) s

/-- `SET 2,(HL)` (R239) -/
def execSet_2_atHL (s : State) : Result := doSet 2 .atHL s

/-- `SET 2,A` (R239) -/
def execSet_2_A (s : State) : Result := doSet 2 (.reg .a) s

/-- `SET 3,B` (R239) -/
def execSet_3_B (s : State) : Result := doSet 3 (.reg .b) s

/-- `SET 3,C` (R239) -/
def execSet_3_C (s : State) : Result := doSet 3 (.reg .c) s

/-- `SET 3,D` (R239) -/
def execSet_3_D (s : State) : Result := doSet 3 (.reg .d) s

/-- `SET 3,E` (R239) -/
def execSet_3_E (s : State) : Result := doSet 3 (.reg .e) s

/-- `SET 3,H` (R239) -/
def execSet_3_H (s : State) : Result := doSet 3 (.reg .h) s

/-- `SET 3,L` (R239) -/
def execSet_3_L (s : State) : Result := doSet 3 (.reg .l) s

/-- `SET 3,(HL)` (R239) -/
def execSet_3_atHL (s : State) : Result := doSet 3 .atHL s

/-- `SET 3,A` (R239) -/
def execSet_3_A (s : State) : Result := doSet 3 (.reg .a) s

/-- `SET 4,B` (R239) -/
def execSet_4_B (s : State) : Result := doSet 4 (.reg .b) s

/-- `SET 4,C` (R239) -/
def execSet_4_C (s : State) : Result := doSet 4 (.reg .c) s

/-- `SET 4,D` (R239) -/
def execSet_4_D (s : State) : Result := doSet 4 (.reg .d) s

/-- `SET 4,E` (R239) -/
def execSet_4_E (s : State) : Result := doSet 4 (.reg .e) s

/-- `SET 4,H` (R239) -/
def execSet_4_H (s : State) : Result := doSet 4 (.reg .h) s

/-- `SET 4,L` (R239) -/
def execSet_4_L (s : State) : Result := doSet 4 (.reg .l) s

/-- `SET 4,(HL)` (R239) -/
def execSet_4_atHL (s : State) : Result := doSet 4 .atHL s

/-- `SET 4,A` (R239) -/
def execSet_4_A (s : State) : Result := doSet 4 (.reg .a) s

/-- `SET 5,B` (R239) -/
def execSet_5_B (s : State) : Result := doSet 5 (.reg .b) s

/-- `SET 5,C` (R239) -/
def execSet_5_C (s : State) : Result := doSet 5 (.reg .c) s

/-- `SET 5,D` (R239) -/
def execSet_5_D (s : State) : Result := doSet 5 (.reg .d) s

/-- `SET 5,E` (R239) -/
def execSet_5_E (s : State) : Result := doSet 5 (.reg .e) s

/-- `SET 5,H` (R239) -/
def execSet_5_H (s : State) : Result := doSet 5 (.reg .h) s

/-- `SET 5,L` (R239) -/
def execSet_5_L (s : State) : Result := doSet 5 (.reg .l) s

/-- `SET 5,(HL)` (R239) -/
def execSet_5_atHL (s : State) : Result := doSet 5 .atHL s

/-- `SET 5,A` (R239) -/
def execSet_5_A (s : State) : Result := doSet 5 (.reg .a) s

/-- `SET 6,B` (R239) -/
def execSet_6_B (s : State) : Result := doSet 6 (.reg .b) s

/-- `SET 6,C` (R239) -/
def execSet_6_C (s : State) : Result := doSet 6 (.reg .c) s

/-- `SET 6,D` (R239) -/
def execSet_6_D (s : State) : Result := doSet 6 (.reg .d) s

/-- `SET 6,E` (R239) -/
def execSet_6_E (s : State) : Result := doSet 6 (.reg .e) s

/-- `SET 6,H` (R239) -/
def execSet_6_H (s : State) : Result := doSet 6 (.reg .h) s

/-- `SET 6,L` (R239) -/
def execSet_6_L (s : State) : Result := doSet 6 (.reg .l) s

/-- `SET 6,(HL)` (R239) -/
def execSet_6_atHL (s : State) : Result := doSet 6 .atHL s

/-- `SET 6,A` (R239) -/
def execSet_6_A (s : State) : Result := doSet 6 (.reg .a) s

/-- `SET 7,B` (R239) -/
def execSet_7_B (s : State) : Result := doSet 7 (.reg .b) s

/-- `SET 7,C` (R239) -/
def execSet_7_C (s : State) : Result := doSet 7 (.reg .c) s

/-- `SET 7,D` (R239) -/
def execSet_7_D (s : State) : Result := doSet 7 (.reg .d) s

/-- `SET 7,E` (R239) -/
def execSet_7_E (s : State) : Result := doSet 7 (.reg .e) s

/-- `SET 7,H` (R239) -/
def execSet_7_H (s : State) : Result := doSet 7 (.reg .h) s

/-- `SET 7,L` (R239) -/
def execSet_7_L (s : State) : Result := doSet 7 (.reg .l) s

/-- `SET 7,(HL)` (R239) -/
def execSet_7_atHL (s : State) : Result := doSet 7 .atHL s

/-- `SET 7,A` (R239) -/
def execSet_7_A (s : State) : Result := doSet 7 (.reg .a) s

end Sys2Proof.Machine
end

