-- ==== Sys2Proof/Machine/System.lean ====
section
/-! DEFINITION. The system instructions, the undefined opcodes and the prefix (46_system.md): the shared operations, then one
meaning per instruction. -/

namespace Sys2Proof.Machine

/-- `NOP` (R270). -/
def doNop (s : State) : Result := .next (s.tick Config.cycNop)

/-- `HALT` (R271). -/
def doHalt (s : State) : Result := .next ((s.setCpu { s.cpu with halted := true }).tick Config.cycHalt)

/-- `STOP` (R272): the padding byte is ignored. -/
def doStop (_x : Byte) (s : State) : Result := .next ((s.setCpu { s.cpu with stopped := true }).tick Config.cycStop)

/-- `DI` (R273). -/
def doDi (s : State) : Result :=
  .next ((s.setCpu { s.cpu with ime := false, imePending := false }).tick Config.cycDi)

/-- `EI` (R274). -/
def doEi (s : State) : Result :=
  .next ((if !s.cpu.ime && !s.cpu.imePending then s.setCpu { s.cpu with imePending := true } else s).tick Config.cycEi)

/-- The undefined opcodes (R276): the anomaly is recorded with the opcode's address, which is PC - 1, and nothing else
happens. -/
def doUndefined (op : Byte) (s : State) : Result :=
  .next ((s.setBus (s.bus.record (.unknownOpcode op (s.cpu.pc - 1)))).tick Config.undefCycles)

/-- `execute extended[op2]` (R275), by the fields of R112 and R126. -/
def doExtended (op2 : Byte) (s : State) : Result :=
  match fieldX op2 with
  | 0 => doRot (RotOp.ofField (fieldY op2)) (R8.ofField (fieldZ op2)) s
  | 1 => doBit (fieldY op2) (R8.ofField (fieldZ op2)) s
  | 2 => doRes (fieldY op2) (R8.ofField (fieldZ op2)) s
  | _ => doSet (fieldY op2) (R8.ofField (fieldZ op2)) s

/-- The prefix 0xCB (R275): the second opcode is fetched and its instruction executed, whose cost is the whole cost. -/
def doPrefix (s : State) : Result := doExtended s.fetch8.1 s.fetch8.2

/-- `NOP` (R270) -/
def execNop (s : State) : Result := doNop s

/-- `STOP` (R272) -/
def execStop (x : Byte) (s : State) : Result := doStop x s

/-- `HALT` (R271) -/
def execHalt (s : State) : Result := doHalt s

/-- `PREFIX CB` (R275) -/
def execPrefix_CB (s : State) : Result := doPrefix s

/-- `UNDEF_D3` (R276) -/
def execUndef_D3 (s : State) : Result := doUndefined 0xD3 s

/-- `UNDEF_DB` (R276) -/
def execUndef_DB (s : State) : Result := doUndefined 0xDB s

/-- `UNDEF_DD` (R276) -/
def execUndef_DD (s : State) : Result := doUndefined 0xDD s

/-- `UNDEF_E3` (R276) -/
def execUndef_E3 (s : State) : Result := doUndefined 0xE3 s

/-- `UNDEF_E4` (R276) -/
def execUndef_E4 (s : State) : Result := doUndefined 0xE4 s

/-- `UNDEF_EB` (R276) -/
def execUndef_EB (s : State) : Result := doUndefined 0xEB s

/-- `UNDEF_EC` (R276) -/
def execUndef_EC (s : State) : Result := doUndefined 0xEC s

/-- `UNDEF_ED` (R276) -/
def execUndef_ED (s : State) : Result := doUndefined 0xED s

/-- `DI` (R273) -/
def execDi (s : State) : Result := doDi s

/-- `UNDEF_F4` (R276) -/
def execUndef_F4 (s : State) : Result := doUndefined 0xF4 s

/-- `EI` (R274) -/
def execEi (s : State) : Result := doEi s

/-- `UNDEF_FC` (R276) -/
def execUndef_FC (s : State) : Result := doUndefined 0xFC s

/-- `UNDEF_FD` (R276) -/
def execUndef_FD (s : State) : Result := doUndefined 0xFD s

end Sys2Proof.Machine
end

