-- ==== Sys2Proof/Machine/Step.lean ====
section
/-! DEFINITION. The BOARD step (R305) around the CPU step (R300), and the placing of one instruction where it is fetched. -/

namespace Sys2Proof.Machine

/-- Part (3) of the CPU step: one instruction, or an idle step (R300, R277, R278). -/
def State.runInstr (s : State) : Host.Outcome State Fault Refusal :=
  if s.cpu.halted || s.cpu.stopped then .next (s.tick Config.idleCycles) else exec s.fetchInstr.1 s.fetchInstr.2

/-- One BOARD step (R300, R305, R321): the interrupt check, one instruction or an idle step, the EI promotion, the advance of
the peripherals and the merge of their requests. -/
def step (s : State) : Host.Outcome State Fault Refusal :=
  let t := s.beginStep.interruptCheck
  match t.runInstr with
  | .next u => (u.promoteEi t.cpu.imePending).finishStep
  | .fault r => .fault r
  | .refused r => .refused r

/-- The state with the instruction of a word of the opcode table stored where the step fetches its next instruction, the bytes
the table gives no bits being zero. -/
def State.withFetchWord (s : State) (nbits w : Nat) : State :=
  let bytes := tableBytes nbits w
  s.placeInstr (bytes.getD 0 0) (bytes.getD 1 0) (bytes.getD 2 0)

end Sys2Proof.Machine
end

