-- ==== Sys2Proof/Machine/Forms.lean ====
section
/-! DEFINITION. The generic form of an instruction with its operand fields (the keys `form` and `fields` of the opcode table,
R131), so that one statement can speak of all the instructions of one form. `Instr.form` is read off the table, row by row;
`formOfBytes` is the field decoding of R111 to R123, written independently of it. -/

namespace Sys2Proof

open Machine (R8 R16 R16Stk Cond AluOp AluSrc RotOp Indirect mkWord loByte hiByte fieldX fieldY fieldZ fieldP fieldQ)

/-- A generic form with its operands. An unconditional jump, call or return has no condition. -/
inductive Form where
  | nop
  | halt
  | stop (x : Byte)
  | di
  | ei
  | prefixCB
  | undefined (op : Byte)
  | ld8 (d src : R8)
  | ld8Imm (d : R8) (n : Byte)
  | loadA (m : Indirect)
  | storeA (m : Indirect)
  | ld16 (p : R16) (nn : Word)
  | ldAbsSp (nn : Word)
  | ldSpHl
  | push (p : R16Stk)
  | pop (p : R16Stk)
  | alu (op : AluOp) (src : AluSrc)
  | inc8 (r : R8)
  | dec8 (r : R8)
  | daa
  | cpl
  | scf
  | ccf
  | addHl (p : R16)
  | inc16 (p : R16)
  | dec16 (p : R16)
  | addSp (e : Byte)
  | ldHlSp (e : Byte)
  | rotA (op : RotOp)
  | rot (op : RotOp) (r : R8)
  | bit (b : Nat) (r : R8)
  | res (b : Nat) (r : R8)
  | set (b : Nat) (r : R8)
  | jp (cc : Option Cond) (nn : Word)
  | jpHl
  | jr (cc : Option Cond) (e : Byte)
  | call (cc : Option Cond) (nn : Word)
  | ret (cc : Option Cond)
  | reti
  | rst (t : Nat)
deriving DecidableEq, Repr

/-- The form of an instruction, row by row of the opcode table. -/
def Instr.form (i : Instr) : Form :=
  match i with
  | .nop => .nop
  | .ld_BC_nn nn => .ld16 .bc nn
  | .ld_atBC_A => .storeA .bc
  | .inc_BC => .inc16 .bc
  | .inc_B => .inc8 (.reg .b)
  | .dec_B => .dec8 (.reg .b)
  | .ld_B_n n => .ld8Imm (.reg .b) n
  | .rlca => .rotA .rlc
  | .ld_atNN_SP nn => .ldAbsSp nn
  | .add_HL_BC => .addHl .bc
  | .ld_A_atBC => .loadA .bc
  | .dec_BC => .dec16 .bc
  | .inc_C => .inc8 (.reg .c)
  | .dec_C => .dec8 (.reg .c)
  | .ld_C_n n => .ld8Imm (.reg .c) n
  | .rrca => .rotA .rrc
  | .stop x => .stop x
  | .ld_DE_nn nn => .ld16 .de nn
  | .ld_atDE_A => .storeA .de
  | .inc_DE => .inc16 .de
  | .inc_D => .inc8 (.reg .d)
  | .dec_D => .dec8 (.reg .d)
  | .ld_D_n n => .ld8Imm (.reg .d) n
  | .rla => .rotA .rl
  | .jr_e e => .jr none e
  | .add_HL_DE => .addHl .de
  | .ld_A_atDE => .loadA .de
  | .dec_DE => .dec16 .de
  | .inc_E => .inc8 (.reg .e)
  | .dec_E => .dec8 (.reg .e)
  | .ld_E_n n => .ld8Imm (.reg .e) n
  | .rra => .rotA .rr
  | .jr_NZ_e e => .jr (some .nz) e
  | .ld_HL_nn nn => .ld16 .hl nn
  | .ld_atHLinc_A => .storeA .hlInc
  | .inc_HL => .inc16 .hl
  | .inc_H => .inc8 (.reg .h)
  | .dec_H => .dec8 (.reg .h)
  | .ld_H_n n => .ld8Imm (.reg .h) n
  | .daa => .daa
  | .jr_Z_e e => .jr (some .z) e
  | .add_HL_HL => .addHl .hl
  | .ld_A_atHLinc => .loadA .hlInc
  | .dec_HL => .dec16 .hl
  | .inc_L => .inc8 (.reg .l)
  | .dec_L => .dec8 (.reg .l)
  | .ld_L_n n => .ld8Imm (.reg .l) n
  | .cpl => .cpl
  | .jr_NC_e e => .jr (some .nc) e
  | .ld_SP_nn nn => .ld16 .sp nn
  | .ld_atHLdec_A => .storeA .hlDec
  | .inc_SP => .inc16 .sp
  | .inc_atHL => .inc8 .atHL
  | .dec_atHL => .dec8 .atHL
  | .ld_atHL_n n => .ld8Imm .atHL n
  | .scf => .scf
  | .jr_C_e e => .jr (some .c) e
  | .add_HL_SP => .addHl .sp
  | .ld_A_atHLdec => .loadA .hlDec
  | .dec_SP => .dec16 .sp
  | .inc_A => .inc8 (.reg .a)
  | .dec_A => .dec8 (.reg .a)
  | .ld_A_n n => .ld8Imm (.reg .a) n
  | .ccf => .ccf
  | .ld_B_B => .ld8 (.reg .b) (.reg .b)
  | .ld_B_C => .ld8 (.reg .b) (.reg .c)
  | .ld_B_D => .ld8 (.reg .b) (.reg .d)
  | .ld_B_E => .ld8 (.reg .b) (.reg .e)
  | .ld_B_H => .ld8 (.reg .b) (.reg .h)
  | .ld_B_L => .ld8 (.reg .b) (.reg .l)
  | .ld_B_atHL => .ld8 (.reg .b) .atHL
  | .ld_B_A => .ld8 (.reg .b) (.reg .a)
  | .ld_C_B => .ld8 (.reg .c) (.reg .b)
  | .ld_C_C => .ld8 (.reg .c) (.reg .c)
  | .ld_C_D => .ld8 (.reg .c) (.reg .d)
  | .ld_C_E => .ld8 (.reg .c) (.reg .e)
  | .ld_C_H => .ld8 (.reg .c) (.reg .h)
  | .ld_C_L => .ld8 (.reg .c) (.reg .l)
  | .ld_C_atHL => .ld8 (.reg .c) .atHL
  | .ld_C_A => .ld8 (.reg .c) (.reg .a)
  | .ld_D_B => .ld8 (.reg .d) (.reg .b)
  | .ld_D_C => .ld8 (.reg .d) (.reg .c)
  | .ld_D_D => .ld8 (.reg .d) (.reg .d)
  | .ld_D_E => .ld8 (.reg .d) (.reg .e)
  | .ld_D_H => .ld8 (.reg .d) (.reg .h)
  | .ld_D_L => .ld8 (.reg .d) (.reg .l)
  | .ld_D_atHL => .ld8 (.reg .d) .atHL
  | .ld_D_A => .ld8 (.reg .d) (.reg .a)
  | .ld_E_B => .ld8 (.reg .e) (.reg .b)
  | .ld_E_C => .ld8 (.reg .e) (.reg .c)
  | .ld_E_D => .ld8 (.reg .e) (.reg .d)
  | .ld_E_E => .ld8 (.reg .e) (.reg .e)
  | .ld_E_H => .ld8 (.reg .e) (.reg .h)
  | .ld_E_L => .ld8 (.reg .e) (.reg .l)
  | .ld_E_atHL => .ld8 (.reg .e) .atHL
  | .ld_E_A => .ld8 (.reg .e) (.reg .a)
  | .ld_H_B => .ld8 (.reg .h) (.reg .b)
  | .ld_H_C => .ld8 (.reg .h) (.reg .c)
  | .ld_H_D => .ld8 (.reg .h) (.reg .d)
  | .ld_H_E => .ld8 (.reg .h) (.reg .e)
  | .ld_H_H => .ld8 (.reg .h) (.reg .h)
  | .ld_H_L => .ld8 (.reg .h) (.reg .l)
  | .ld_H_atHL => .ld8 (.reg .h) .atHL
  | .ld_H_A => .ld8 (.reg .h) (.reg .a)
  | .ld_L_B => .ld8 (.reg .l) (.reg .b)
  | .ld_L_C => .ld8 (.reg .l) (.reg .c)
  | .ld_L_D => .ld8 (.reg .l) (.reg .d)
  | .ld_L_E => .ld8 (.reg .l) (.reg .e)
  | .ld_L_H => .ld8 (.reg .l) (.reg .h)
  | .ld_L_L => .ld8 (.reg .l) (.reg .l)
  | .ld_L_atHL => .ld8 (.reg .l) .atHL
  | .ld_L_A => .ld8 (.reg .l) (.reg .a)
  | .ld_atHL_B => .ld8 .atHL (.reg .b)
  | .ld_atHL_C => .ld8 .atHL (.reg .c)
  | .ld_atHL_D => .ld8 .atHL (.reg .d)
  | .ld_atHL_E => .ld8 .atHL (.reg .e)
  | .ld_atHL_H => .ld8 .atHL (.reg .h)
  | .ld_atHL_L => .ld8 .atHL (.reg .l)
  | .halt => .halt
  | .ld_atHL_A => .ld8 .atHL (.reg .a)
  | .ld_A_B => .ld8 (.reg .a) (.reg .b)
  | .ld_A_C => .ld8 (.reg .a) (.reg .c)
  | .ld_A_D => .ld8 (.reg .a) (.reg .d)
  | .ld_A_E => .ld8 (.reg .a) (.reg .e)
  | .ld_A_H => .ld8 (.reg .a) (.reg .h)
  | .ld_A_L => .ld8 (.reg .a) (.reg .l)
  | .ld_A_atHL => .ld8 (.reg .a) .atHL
  | .ld_A_A => .ld8 (.reg .a) (.reg .a)
  | .add_B => .alu .add (.r8 (.reg .b))
  | .add_C => .alu .add (.r8 (.reg .c))
  | .add_D => .alu .add (.r8 (.reg .d))
  | .add_E => .alu .add (.r8 (.reg .e))
  | .add_H => .alu .add (.r8 (.reg .h))
  | .add_L => .alu .add (.r8 (.reg .l))
  | .add_atHL => .alu .add (.r8 .atHL)
  | .add_A => .alu .add (.r8 (.reg .a))
  | .adc_B => .alu .adc (.r8 (.reg .b))
  | .adc_C => .alu .adc (.r8 (.reg .c))
  | .adc_D => .alu .adc (.r8 (.reg .d))
  | .adc_E => .alu .adc (.r8 (.reg .e))
  | .adc_H => .alu .adc (.r8 (.reg .h))
  | .adc_L => .alu .adc (.r8 (.reg .l))
  | .adc_atHL => .alu .adc (.r8 .atHL)
  | .adc_A => .alu .adc (.r8 (.reg .a))
  | .sub_B => .alu .sub (.r8 (.reg .b))
  | .sub_C => .alu .sub (.r8 (.reg .c))
  | .sub_D => .alu .sub (.r8 (.reg .d))
  | .sub_E => .alu .sub (.r8 (.reg .e))
  | .sub_H => .alu .sub (.r8 (.reg .h))
  | .sub_L => .alu .sub (.r8 (.reg .l))
  | .sub_atHL => .alu .sub (.r8 .atHL)
  | .sub_A => .alu .sub (.r8 (.reg .a))
  | .sbc_B => .alu .sbc (.r8 (.reg .b))
  | .sbc_C => .alu .sbc (.r8 (.reg .c))
  | .sbc_D => .alu .sbc (.r8 (.reg .d))
  | .sbc_E => .alu .sbc (.r8 (.reg .e))
  | .sbc_H => .alu .sbc (.r8 (.reg .h))
  | .sbc_L => .alu .sbc (.r8 (.reg .l))
  | .sbc_atHL => .alu .sbc (.r8 .atHL)
  | .sbc_A => .alu .sbc (.r8 (.reg .a))
  | .and_B => .alu .and (.r8 (.reg .b))
  | .and_C => .alu .and (.r8 (.reg .c))
  | .and_D => .alu .and (.r8 (.reg .d))
  | .and_E => .alu .and (.r8 (.reg .e))
  | .and_H => .alu .and (.r8 (.reg .h))
  | .and_L => .alu .and (.r8 (.reg .l))
  | .and_atHL => .alu .and (.r8 .atHL)
  | .and_A => .alu .and (.r8 (.reg .a))
  | .xor_B => .alu .xor (.r8 (.reg .b))
  | .xor_C => .alu .xor (.r8 (.reg .c))
  | .xor_D => .alu .xor (.r8 (.reg .d))
  | .xor_E => .alu .xor (.r8 (.reg .e))
  | .xor_H => .alu .xor (.r8 (.reg .h))
  | .xor_L => .alu .xor (.r8 (.reg .l))
  | .xor_atHL => .alu .xor (.r8 .atHL)
  | .xor_A => .alu .xor (.r8 (.reg .a))
  | .or_B => .alu .or (.r8 (.reg .b))
  | .or_C => .alu .or (.r8 (.reg .c))
  | .or_D => .alu .or (.r8 (.reg .d))
  | .or_E => .alu .or (.r8 (.reg .e))
  | .or_H => .alu .or (.r8 (.reg .h))
  | .or_L => .alu .or (.r8 (.reg .l))
  | .or_atHL => .alu .or (.r8 .atHL)
  | .or_A => .alu .or (.r8 (.reg .a))
  | .cp_B => .alu .cp (.r8 (.reg .b))
  | .cp_C => .alu .cp (.r8 (.reg .c))
  | .cp_D => .alu .cp (.r8 (.reg .d))
  | .cp_E => .alu .cp (.r8 (.reg .e))
  | .cp_H => .alu .cp (.r8 (.reg .h))
  | .cp_L => .alu .cp (.r8 (.reg .l))
  | .cp_atHL => .alu .cp (.r8 .atHL)
  | .cp_A => .alu .cp (.r8 (.reg .a))
  | .ret_NZ => .ret (some .nz)
  | .pop_BC => .pop .bc
  | .jp_NZ_nn nn => .jp (some .nz) nn
  | .jp_nn nn => .jp none nn
  | .call_NZ_nn nn => .call (some .nz) nn
  | .push_BC => .push .bc
  | .add_n n => .alu .add (.imm n)
  | .rst_00 => .rst 0
  | .ret_Z => .ret (some .z)
  | .ret => .ret none
  | .jp_Z_nn nn => .jp (some .z) nn
  | .prefix_CB => .prefixCB
  | .call_Z_nn nn => .call (some .z) nn
  | .call_nn nn => .call none nn
  | .adc_n n => .alu .adc (.imm n)
  | .rst_08 => .rst 1
  | .ret_NC => .ret (some .nc)
  | .pop_DE => .pop .de
  | .jp_NC_nn nn => .jp (some .nc) nn
  | .undef_D3 => .undefined 0xD3
  | .call_NC_nn nn => .call (some .nc) nn
  | .push_DE => .push .de
  | .sub_n n => .alu .sub (.imm n)
  | .rst_10 => .rst 2
  | .ret_C => .ret (some .c)
  | .reti => .reti
  | .jp_C_nn nn => .jp (some .c) nn
  | .undef_DB => .undefined 0xDB
  | .call_C_nn nn => .call (some .c) nn
  | .undef_DD => .undefined 0xDD
  | .sbc_n n => .alu .sbc (.imm n)
  | .rst_18 => .rst 3
  | .ldh_atN_A n => .storeA (.high n)
  | .pop_HL => .pop .hl
  | .ld_atC_A => .storeA .highC
  | .undef_E3 => .undefined 0xE3
  | .undef_E4 => .undefined 0xE4
  | .push_HL => .push .hl
  | .and_n n => .alu .and (.imm n)
  | .rst_20 => .rst 4
  | .add_SP_e e => .addSp e
  | .jp_HL => .jpHl
  | .ld_atNN_A nn => .storeA (.abs nn)
  | .undef_EB => .undefined 0xEB
  | .undef_EC => .undefined 0xEC
  | .undef_ED => .undefined 0xED
  | .xor_n n => .alu .xor (.imm n)
  | .rst_28 => .rst 5
  | .ldh_A_atN n => .loadA (.high n)
  | .pop_AF => .pop .af
  | .ld_A_atC => .loadA .highC
  | .di => .di
  | .undef_F4 => .undefined 0xF4
  | .push_AF => .push .af
  | .or_n n => .alu .or (.imm n)
  | .rst_30 => .rst 6
  | .ld_HL_SPe e => .ldHlSp e
  | .ld_SP_HL => .ldSpHl
  | .ld_A_atNN nn => .loadA (.abs nn)
  | .ei => .ei
  | .undef_FC => .undefined 0xFC
  | .undef_FD => .undefined 0xFD
  | .cp_n n => .alu .cp (.imm n)
  | .rst_38 => .rst 7
  | .rlc_B => .rot .rlc (.reg .b)
  | .rlc_C => .rot .rlc (.reg .c)
  | .rlc_D => .rot .rlc (.reg .d)
  | .rlc_E => .rot .rlc (.reg .e)
  | .rlc_H => .rot .rlc (.reg .h)
  | .rlc_L => .rot .rlc (.reg .l)
  | .rlc_atHL => .rot .rlc .atHL
  | .rlc_A => .rot .rlc (.reg .a)
  | .rrc_B => .rot .rrc (.reg .b)
  | .rrc_C => .rot .rrc (.reg .c)
  | .rrc_D => .rot .rrc (.reg .d)
  | .rrc_E => .rot .rrc (.reg .e)
  | .rrc_H => .rot .rrc (.reg .h)
  | .rrc_L => .rot .rrc (.reg .l)
  | .rrc_atHL => .rot .rrc .atHL
  | .rrc_A => .rot .rrc (.reg .a)
  | .rl_B => .rot .rl (.reg .b)
  | .rl_C => .rot .rl (.reg .c)
  | .rl_D => .rot .rl (.reg .d)
  | .rl_E => .rot .rl (.reg .e)
  | .rl_H => .rot .rl (.reg .h)
  | .rl_L => .rot .rl (.reg .l)
  | .rl_atHL => .rot .rl .atHL
  | .rl_A => .rot .rl (.reg .a)
  | .rr_B => .rot .rr (.reg .b)
  | .rr_C => .rot .rr (.reg .c)
  | .rr_D => .rot .rr (.reg .d)
  | .rr_E => .rot .rr (.reg .e)
  | .rr_H => .rot .rr (.reg .h)
  | .rr_L => .rot .rr (.reg .l)
  | .rr_atHL => .rot .rr .atHL
  | .rr_A => .rot .rr (.reg .a)
  | .sla_B => .rot .sla (.reg .b)
  | .sla_C => .rot .sla (.reg .c)
  | .sla_D => .rot .sla (.reg .d)
  | .sla_E => .rot .sla (.reg .e)
  | .sla_H => .rot .sla (.reg .h)
  | .sla_L => .rot .sla (.reg .l)
  | .sla_atHL => .rot .sla .atHL
  | .sla_A => .rot .sla (.reg .a)
  | .sra_B => .rot .sra (.reg .b)
  | .sra_C => .rot .sra (.reg .c)
  | .sra_D => .rot .sra (.reg .d)
  | .sra_E => .rot .sra (.reg .e)
  | .sra_H => .rot .sra (.reg .h)
  | .sra_L => .rot .sra (.reg .l)
  | .sra_atHL => .rot .sra .atHL
  | .sra_A => .rot .sra (.reg .a)
  | .swap_B => .rot .swap (.reg .b)
  | .swap_C => .rot .swap (.reg .c)
  | .swap_D => .rot .swap (.reg .d)
  | .swap_E => .rot .swap (.reg .e)
  | .swap_H => .rot .swap (.reg .h)
  | .swap_L => .rot .swap (.reg .l)
  | .swap_atHL => .rot .swap .atHL
  | .swap_A => .rot .swap (.reg .a)
  | .srl_B => .rot .srl (.reg .b)
  | .srl_C => .rot .srl (.reg .c)
  | .srl_D => .rot .srl (.reg .d)
  | .srl_E => .rot .srl (.reg .e)
  | .srl_H => .rot .srl (.reg .h)
  | .srl_L => .rot .srl (.reg .l)
  | .srl_atHL => .rot .srl .atHL
  | .srl_A => .rot .srl (.reg .a)
  | .bit_0_B => .bit 0 (.reg .b)
  | .bit_0_C => .bit 0 (.reg .c)
  | .bit_0_D => .bit 0 (.reg .d)
  | .bit_0_E => .bit 0 (.reg .e)
  | .bit_0_H => .bit 0 (.reg .h)
  | .bit_0_L => .bit 0 (.reg .l)
  | .bit_0_atHL => .bit 0 .atHL
  | .bit_0_A => .bit 0 (.reg .a)
  | .bit_1_B => .bit 1 (.reg .b)
  | .bit_1_C => .bit 1 (.reg .c)
  | .bit_1_D => .bit 1 (.reg .d)
  | .bit_1_E => .bit 1 (.reg .e)
  | .bit_1_H => .bit 1 (.reg .h)
  | .bit_1_L => .bit 1 (.reg .l)
  | .bit_1_atHL => .bit 1 .atHL
  | .bit_1_A => .bit 1 (.reg .a)
  | .bit_2_B => .bit 2 (.reg .b)
  | .bit_2_C => .bit 2 (.reg .c)
  | .bit_2_D => .bit 2 (.reg .d)
  | .bit_2_E => .bit 2 (.reg .e)
  | .bit_2_H => .bit 2 (.reg .h)
  | .bit_2_L => .bit 2 (.reg .l)
  | .bit_2_atHL => .bit 2 .atHL
  | .bit_2_A => .bit 2 (.reg .a)
  | .bit_3_B => .bit 3 (.reg .b)
  | .bit_3_C => .bit 3 (.reg .c)
  | .bit_3_D => .bit 3 (.reg .d)
  | .bit_3_E => .bit 3 (.reg .e)
  | .bit_3_H => .bit 3 (.reg .h)
  | .bit_3_L => .bit 3 (.reg .l)
  | .bit_3_atHL => .bit 3 .atHL
  | .bit_3_A => .bit 3 (.reg .a)
  | .bit_4_B => .bit 4 (.reg .b)
  | .bit_4_C => .bit 4 (.reg .c)
  | .bit_4_D => .bit 4 (.reg .d)
  | .bit_4_E => .bit 4 (.reg .e)
  | .bit_4_H => .bit 4 (.reg .h)
  | .bit_4_L => .bit 4 (.reg .l)
  | .bit_4_atHL => .bit 4 .atHL
  | .bit_4_A => .bit 4 (.reg .a)
  | .bit_5_B => .bit 5 (.reg .b)
  | .bit_5_C => .bit 5 (.reg .c)
  | .bit_5_D => .bit 5 (.reg .d)
  | .bit_5_E => .bit 5 (.reg .e)
  | .bit_5_H => .bit 5 (.reg .h)
  | .bit_5_L => .bit 5 (.reg .l)
  | .bit_5_atHL => .bit 5 .atHL
  | .bit_5_A => .bit 5 (.reg .a)
  | .bit_6_B => .bit 6 (.reg .b)
  | .bit_6_C => .bit 6 (.reg .c)
  | .bit_6_D => .bit 6 (.reg .d)
  | .bit_6_E => .bit 6 (.reg .e)
  | .bit_6_H => .bit 6 (.reg .h)
  | .bit_6_L => .bit 6 (.reg .l)
  | .bit_6_atHL => .bit 6 .atHL
  | .bit_6_A => .bit 6 (.reg .a)
  | .bit_7_B => .bit 7 (.reg .b)
  | .bit_7_C => .bit 7 (.reg .c)
  | .bit_7_D => .bit 7 (.reg .d)
  | .bit_7_E => .bit 7 (.reg .e)
  | .bit_7_H => .bit 7 (.reg .h)
  | .bit_7_L => .bit 7 (.reg .l)
  | .bit_7_atHL => .bit 7 .atHL
  | .bit_7_A => .bit 7 (.reg .a)
  | .res_0_B => .res 0 (.reg .b)
  | .res_0_C => .res 0 (.reg .c)
  | .res_0_D => .res 0 (.reg .d)
  | .res_0_E => .res 0 (.reg .e)
  | .res_0_H => .res 0 (.reg .h)
  | .res_0_L => .res 0 (.reg .l)
  | .res_0_atHL => .res 0 .atHL
  | .res_0_A => .res 0 (.reg .a)
  | .res_1_B => .res 1 (.reg .b)
  | .res_1_C => .res 1 (.reg .c)
  | .res_1_D => .res 1 (.reg .d)
  | .res_1_E => .res 1 (.reg .e)
  | .res_1_H => .res 1 (.reg .h)
  | .res_1_L => .res 1 (.reg .l)
  | .res_1_atHL => .res 1 .atHL
  | .res_1_A => .res 1 (.reg .a)
  | .res_2_B => .res 2 (.reg .b)
  | .res_2_C => .res 2 (.reg .c)
  | .res_2_D => .res 2 (.reg .d)
  | .res_2_E => .res 2 (.reg .e)
  | .res_2_H => .res 2 (.reg .h)
  | .res_2_L => .res 2 (.reg .l)
  | .res_2_atHL => .res 2 .atHL
  | .res_2_A => .res 2 (.reg .a)
  | .res_3_B => .res 3 (.reg .b)
  | .res_3_C => .res 3 (.reg .c)
  | .res_3_D => .res 3 (.reg .d)
  | .res_3_E => .res 3 (.reg .e)
  | .res_3_H => .res 3 (.reg .h)
  | .res_3_L => .res 3 (.reg .l)
  | .res_3_atHL => .res 3 .atHL
  | .res_3_A => .res 3 (.reg .a)
  | .res_4_B => .res 4 (.reg .b)
  | .res_4_C => .res 4 (.reg .c)
  | .res_4_D => .res 4 (.reg .d)
  | .res_4_E => .res 4 (.reg .e)
  | .res_4_H => .res 4 (.reg .h)
  | .res_4_L => .res 4 (.reg .l)
  | .res_4_atHL => .res 4 .atHL
  | .res_4_A => .res 4 (.reg .a)
  | .res_5_B => .res 5 (.reg .b)
  | .res_5_C => .res 5 (.reg .c)
  | .res_5_D => .res 5 (.reg .d)
  | .res_5_E => .res 5 (.reg .e)
  | .res_5_H => .res 5 (.reg .h)
  | .res_5_L => .res 5 (.reg .l)
  | .res_5_atHL => .res 5 .atHL
  | .res_5_A => .res 5 (.reg .a)
  | .res_6_B => .res 6 (.reg .b)
  | .res_6_C => .res 6 (.reg .c)
  | .res_6_D => .res 6 (.reg .d)
  | .res_6_E => .res 6 (.reg .e)
  | .res_6_H => .res 6 (.reg .h)
  | .res_6_L => .res 6 (.reg .l)
  | .res_6_atHL => .res 6 .atHL
  | .res_6_A => .res 6 (.reg .a)
  | .res_7_B => .res 7 (.reg .b)
  | .res_7_C => .res 7 (.reg .c)
  | .res_7_D => .res 7 (.reg .d)
  | .res_7_E => .res 7 (.reg .e)
  | .res_7_H => .res 7 (.reg .h)
  | .res_7_L => .res 7 (.reg .l)
  | .res_7_atHL => .res 7 .atHL
  | .res_7_A => .res 7 (.reg .a)
  | .set_0_B => .set 0 (.reg .b)
  | .set_0_C => .set 0 (.reg .c)
  | .set_0_D => .set 0 (.reg .d)
  | .set_0_E => .set 0 (.reg .e)
  | .set_0_H => .set 0 (.reg .h)
  | .set_0_L => .set 0 (.reg .l)
  | .set_0_atHL => .set 0 .atHL
  | .set_0_A => .set 0 (.reg .a)
  | .set_1_B => .set 1 (.reg .b)
  | .set_1_C => .set 1 (.reg .c)
  | .set_1_D => .set 1 (.reg .d)
  | .set_1_E => .set 1 (.reg .e)
  | .set_1_H => .set 1 (.reg .h)
  | .set_1_L => .set 1 (.reg .l)
  | .set_1_atHL => .set 1 .atHL
  | .set_1_A => .set 1 (.reg .a)
  | .set_2_B => .set 2 (.reg .b)
  | .set_2_C => .set 2 (.reg .c)
  | .set_2_D => .set 2 (.reg .d)
  | .set_2_E => .set 2 (.reg .e)
  | .set_2_H => .set 2 (.reg .h)
  | .set_2_L => .set 2 (.reg .l)
  | .set_2_atHL => .set 2 .atHL
  | .set_2_A => .set 2 (.reg .a)
  | .set_3_B => .set 3 (.reg .b)
  | .set_3_C => .set 3 (.reg .c)
  | .set_3_D => .set 3 (.reg .d)
  | .set_3_E => .set 3 (.reg .e)
  | .set_3_H => .set 3 (.reg .h)
  | .set_3_L => .set 3 (.reg .l)
  | .set_3_atHL => .set 3 .atHL
  | .set_3_A => .set 3 (.reg .a)
  | .set_4_B => .set 4 (.reg .b)
  | .set_4_C => .set 4 (.reg .c)
  | .set_4_D => .set 4 (.reg .d)
  | .set_4_E => .set 4 (.reg .e)
  | .set_4_H => .set 4 (.reg .h)
  | .set_4_L => .set 4 (.reg .l)
  | .set_4_atHL => .set 4 .atHL
  | .set_4_A => .set 4 (.reg .a)
  | .set_5_B => .set 5 (.reg .b)
  | .set_5_C => .set 5 (.reg .c)
  | .set_5_D => .set 5 (.reg .d)
  | .set_5_E => .set 5 (.reg .e)
  | .set_5_H => .set 5 (.reg .h)
  | .set_5_L => .set 5 (.reg .l)
  | .set_5_atHL => .set 5 .atHL
  | .set_5_A => .set 5 (.reg .a)
  | .set_6_B => .set 6 (.reg .b)
  | .set_6_C => .set 6 (.reg .c)
  | .set_6_D => .set 6 (.reg .d)
  | .set_6_E => .set 6 (.reg .e)
  | .set_6_H => .set 6 (.reg .h)
  | .set_6_L => .set 6 (.reg .l)
  | .set_6_atHL => .set 6 .atHL
  | .set_6_A => .set 6 (.reg .a)
  | .set_7_B => .set 7 (.reg .b)
  | .set_7_C => .set 7 (.reg .c)
  | .set_7_D => .set 7 (.reg .d)
  | .set_7_E => .set 7 (.reg .e)
  | .set_7_H => .set 7 (.reg .h)
  | .set_7_L => .set 7 (.reg .l)
  | .set_7_atHL => .set 7 .atHL
  | .set_7_A => .set 7 (.reg .a)

/-- The extended table by fields (R112, R126). -/
def formOfExtended (op : Byte) : Form :=
  let r := R8.ofField (fieldZ op)
  match fieldX op with
  | 0 => .rot (RotOp.ofField (fieldY op)) r
  | 1 => .bit (fieldY op) r
  | 2 => .res (fieldY op) r
  | _ => .set (fieldY op) r

/-- The block x = 0 of the primary table by fields (R123). -/
def formOfBlock0 (op n : Byte) (nn : Word) : Form :=
  let y := fieldY op
  let p := fieldP op
  let q := fieldQ op
  match fieldZ op with
  | 0 =>
    if y = 0 then .nop
    else if y = 1 then .ldAbsSp nn
    else if y = 2 then .stop n
    else if y = 3 then .jr none n
    else .jr (some (Cond.ofField (y - 4))) n
  | 1 => if q = 0 then .ld16 (R16.ofField p) nn else .addHl (R16.ofField p)
  | 2 => if q = 0 then .storeA (Indirect.ofField p) else .loadA (Indirect.ofField p)
  | 3 => if q = 0 then .inc16 (R16.ofField p) else .dec16 (R16.ofField p)
  | 4 => .inc8 (R8.ofField y)
  | 5 => .dec8 (R8.ofField y)
  | 6 => .ld8Imm (R8.ofField y) n
  | _ =>
    if y < 4 then .rotA (RotOp.ofField y)
    else if y = 4 then .daa
    else if y = 5 then .cpl
    else if y = 6 then .scf
    else .ccf

/-- The block x = 3 of the primary table by fields (R123). -/
def formOfBlock3 (op n : Byte) (nn : Word) : Form :=
  let y := fieldY op
  let p := fieldP op
  let q := fieldQ op
  match fieldZ op with
  | 0 =>
    if y < 4 then .ret (some (Cond.ofField y))
    else if y = 4 then .storeA (.high n)
    else if y = 5 then .addSp n
    else if y = 6 then .loadA (.high n)
    else .ldHlSp n
  | 1 =>
    if q = 0 then .pop (R16Stk.ofField p)
    else if p = 0 then .ret none
    else if p = 1 then .reti
    else if p = 2 then .jpHl
    else .ldSpHl
  | 2 =>
    if y < 4 then .jp (some (Cond.ofField y)) nn
    else if y = 4 then .storeA .highC
    else if y = 5 then .storeA (.abs nn)
    else if y = 6 then .loadA .highC
    else .loadA (.abs nn)
  | 3 =>
    if y = 0 then .jp none nn
    else if y = 1 then .prefixCB
    else if y = 6 then .di
    else if y = 7 then .ei
    else .undefined op
  | 4 => if y < 4 then .call (some (Cond.ofField y)) nn else .undefined op
  | 5 => if q = 0 then .push (R16Stk.ofField p) else if p = 0 then .call none nn else .undefined op
  | 6 => .alu (AluOp.ofField y) (.imm n)
  | _ => .rst y

/-- The primary table by fields (R111, R123). -/
def formOfPrimary (op n : Byte) (nn : Word) : Form :=
  match fieldX op with
  | 0 => formOfBlock0 op n nn
  | 1 => if op = 0x76 then .halt else .ld8 (R8.ofField (fieldY op)) (R8.ofField (fieldZ op))
  | 2 => .alu (AluOp.ofField (fieldY op)) (.r8 (R8.ofField (fieldZ op)))
  | _ => formOfBlock3 op n nn

/-- The bytes of a form, its opcode computed from its fields (R110 to R123, R126). -/
def Form.bytes (f : Form) : List Byte :=
  let op (n : Nat) : Byte := BitVec.ofNat 8 n
  match f with
  | .nop => [0x00]
  | .halt => [0x76]
  | .stop x => [0x10, x]
  | .di => [0xF3]
  | .ei => [0xFB]
  | .prefixCB => [0xCB]
  | .undefined o => [o]
  | .ld8 d src => [op (0x40 + 8 * d.code + src.code)]
  | .ld8Imm d n => [op (0x06 + 8 * d.code), n]
  | .loadA .bc => [0x0A]
  | .loadA .de => [0x1A]
  | .loadA .hlInc => [0x2A]
  | .loadA .hlDec => [0x3A]
  | .loadA (.abs nn) => [0xFA, loByte nn, hiByte nn]
  | .loadA (.high n) => [0xF0, n]
  | .loadA .highC => [0xF2]
  | .storeA .bc => [0x02]
  | .storeA .de => [0x12]
  | .storeA .hlInc => [0x22]
  | .storeA .hlDec => [0x32]
  | .storeA (.abs nn) => [0xEA, loByte nn, hiByte nn]
  | .storeA (.high n) => [0xE0, n]
  | .storeA .highC => [0xE2]
  | .ld16 p nn => [op (0x01 + 16 * p.code), loByte nn, hiByte nn]
  | .ldAbsSp nn => [0x08, loByte nn, hiByte nn]
  | .ldSpHl => [0xF9]
  | .push p => [op (0xC5 + 16 * p.code)]
  | .pop p => [op (0xC1 + 16 * p.code)]
  | .alu o (.r8 r) => [op (0x80 + 8 * o.code + r.code)]
  | .alu o (.imm n) => [op (0xC6 + 8 * o.code), n]
  | .inc8 r => [op (0x04 + 8 * r.code)]
  | .dec8 r => [op (0x05 + 8 * r.code)]
  | .daa => [0x27]
  | .cpl => [0x2F]
  | .scf => [0x37]
  | .ccf => [0x3F]
  | .addHl p => [op (0x09 + 16 * p.code)]
  | .inc16 p => [op (0x03 + 16 * p.code)]
  | .dec16 p => [op (0x0B + 16 * p.code)]
  | .addSp e => [0xE8, e]
  | .ldHlSp e => [0xF8, e]
  | .rotA o => [op (0x07 + 8 * o.code)]
  | .rot o r => [0xCB, op (8 * o.code + r.code)]
  | .bit b r => [0xCB, op (0x40 + 8 * b + r.code)]
  | .res b r => [0xCB, op (0x80 + 8 * b + r.code)]
  | .set b r => [0xCB, op (0xC0 + 8 * b + r.code)]
  | .jp none nn => [0xC3, loByte nn, hiByte nn]
  | .jp (some c) nn => [op (0xC2 + 8 * c.code), loByte nn, hiByte nn]
  | .jpHl => [0xE9]
  | .jr none e => [0x18, e]
  | .jr (some c) e => [op (0x20 + 8 * c.code), e]
  | .call none nn => [0xCD, loByte nn, hiByte nn]
  | .call (some c) nn => [op (0xC4 + 8 * c.code), loByte nn, hiByte nn]
  | .ret none => [0xC9]
  | .ret (some c) => [op (0xC0 + 8 * c.code)]
  | .reti => [0xD9]
  | .rst t => [op (0xC7 + 8 * t)]

/-- The form that three bytes begin, by fields (R128). -/
def formOfBytes (op b1 b2 : Byte) : Form :=
  if op = 0xCB then formOfExtended b1 else formOfPrimary op b1 (mkWord b2 b1)

end Sys2Proof
end

