-- ==== Sys2Proof/Safety.lean ====
section
/-! DEFINITION. What claims about the machine are stated in: the invariants that every step keeps, the addresses an
instruction stores to, and the addresses whose read a store can change. -/

namespace Sys2Proof.Machine

/-- F holds these four flags and a low nibble of 0 (R22, R23). -/
def FlagsAre (f : Byte) (z n h c : Bool) : Prop := fZ f = z ∧ fN f = n ∧ fH f = h ∧ fC f = c ∧ f &&& 0x0F = 0

/-- A bit as the number 0 or 1 of a sum. -/
def bitByte (x : Bool) : Byte := if x then 1 else 0

/-- What an accumulator operation costs: 4 cycles with a register, 8 with memory or an immediate (R185). -/
def aluCost (src : AluSrc) : Nat :=
  match src with
  | .r8 (.reg _) => 4
  | .r8 .atHL => 8
  | .imm _ => 8

/-- The bytes of an accumulator operation with an operand (R185, R118). -/
def AluSrc.encoding (op : AluOp) (src : AluSrc) : List Byte :=
  match src with
  | .r8 (.reg r) => [BitVec.ofNat 8 (0x80 + 8 * op.code + r.code)]
  | .r8 .atHL => [BitVec.ofNat 8 (0x86 + 8 * op.code)]
  | .imm n => [BitVec.ofNat 8 (0xC6 + 8 * op.code), n]

/-- What a rotate or shift makes of a byte, `carry` being C before it (R229 to R236), by shifts of the whole byte. -/
def RotOp.shifted (op : RotOp) (v : Byte) (carry : Bool) : Byte :=
  match op with
  | .rlc => v.rotateLeft 1
  | .rrc => v.rotateRight 1
  | .rl => (v <<< 1) ||| bitByte carry
  | .rr => (v >>> 1) ||| (bitByte carry <<< 7)
  | .sla => v <<< 1
  | .sra => v.sshiftRight 1
  | .swap => v.rotateLeft 4
  | .srl => v >>> 1

/-- The bit that a rotate or shift moves into C: bit 7 of the left ones, bit 0 of the right ones, none of `SWAP`. -/
def RotOp.bitOut (op : RotOp) (v : Byte) : Bool :=
  match op with
  | .rlc | .rl | .sla => v.getLsbD 7
  | .rrc | .rr | .sra | .srl => v.getLsbD 0
  | .swap => false

/-- R23: `F[3:0] = 0`. -/
def Cpu.FlagsOk (c : Cpu) : Prop := c.f &&& 0x0F = 0

/-- R311: IME = 1 implies `ime_pending` = 0. -/
def Cpu.ImeOk (c : Cpu) : Prop := c.ime = true → c.imePending = false

/-- The mode of a position of the frame (R371). -/
def modeAt (ly lineCycle : Nat) : BitVec 2 :=
  if 144 ≤ ly then 1 else if lineCycle < 80 then 2 else if lineCycle < 252 then 3 else 0

/-- A position of the frame: line 0 to 153, cycle 0 to 452 in steps of 4 (R370, R371). -/
def Ppu.PositionOk (p : Ppu) : Prop := p.ly.toNat ≤ 153 ∧ p.lineCycle < 456 ∧ p.lineCycle % 4 = 0

/-- The mode is that of the position while the display is enabled (R371) and 0 while it is disabled (R377). -/
def Ppu.ModeOk (p : Ppu) : Prop := p.mode = if p.enabled then modeAt p.ly.toNat p.lineCycle else 0

/-- The display controller's registers and position are ones it can have (R363, R370, R371, R377). -/
structure Ppu.Ok (p : Ppu) : Prop where
  position : p.PositionOk
  mode : p.ModeOk
  statBit7 : p.stat.getLsbD 7 = false

/-- The DMA counter (R42, R392): at most 161, and below it while a transfer runs. -/
def Ppu.DmaOk (p : Ppu) : Prop := p.dmaTick ≤ 161 ∧ (p.dmaActive = true → p.dmaTick < 161)

/-- The ROM bank selector of a variant (R427, R431, R432): never 0, for Scheme-A not even in its low field; Scheme-B's has four
bits. -/
structure Cart.SelectorsOk (c : Cart) : Prop where
  bank : c.romBank ≠ 0
  schemeA : c.variant = .schemeA → c.romBank.extractLsb' 0 5 ≠ 0
  schemeB : c.variant = .schemeB → c.romBank.toNat < 16

/-- The cartridge's arrays: canonical, the image inside its banks, the RAM inside its size, Scheme-B's RAM of 512 nibbles
(R422, R426, R432). -/
structure Cart.ArraysOk (c : Cart) : Prop where
  rom : Memory.wf (Config.romBankSize * c.romBanks) c.rom
  ram : Memory.wf c.ramSize c.ram
  nibbles : c.variant = .schemeB → c.ramSize = 512 ∧ ∀ x ∈ c.ram, x.2 &&& 0xF0 = 0

/-- Every array of the machine is in its canonical form and inside its size (R38, R39, R41). -/
structure Bus.ArraysOk (b : Bus) : Prop where
  wram : Memory.wf Config.wramSize b.wram
  hram : Memory.wf Config.hramSize b.hram
  io : Memory.wf Config.ioSlots b.io
  vram : Memory.wf Config.vramSize b.ppu.vram
  oam : Memory.wf Config.oamSize b.ppu.oam
  cart : b.cart.ArraysOk
  frame : Sparse.Canonical blankLine Config.screenHeight b.ppu.frame
  frameWidth : ∀ x ∈ b.ppu.frame, x.2.length = Config.screenWidth
  source : Sparse.Canonical blankSource Config.screenHeight b.ppu.source
  sourceWidth : ∀ x ∈ b.ppu.source, x.2.length = Config.screenWidth

/-- Whether a region is read through the cartridge's switchable window or its RAM window. -/
def inSwitchedWindow (x : Nat) : Bool := (decide (0x4000 ≤ x) && decide (x < 0x8000)) || regionOf x = .cartRam

/-- Whether a byte written by the CPU at address `a` can change what is read at address `x` (R62, R63, R66, R82): the byte
itself; its alias in work RAM and echo; the cells that a cartridge RAM smaller than its window repeats; the windows that a
bank selector moves; what a write to LCDC ungates, and LY and STAT with it (R377, R378); the work RAM that a transfer started by
a write to the DMA register blocks (R76). -/
def Bus.writeAffects (b : Bus) (a x : Nat) : Bool :=
  match regionOf a with
  | .rom => b.cart.variant ≠ .romOnly && inSwitchedWindow x
  | .vram => x = a
  | .cartRam =>
    regionOf x = .cartRam &&
      (match b.cart.rtcCell with
        | some _ => true
        | none => b.cart.ramCell x = b.cart.ramCell a)
  | .wram => x = a || (regionOf x = .echo && x = a + 0x2000)
  | .echo => x = a || x = a - 0x2000
  | .oam => x = a
  | .unmapped => false
  | .joyp => x = a
  | .timer => x = a
  | .ppuReg =>
    x = a || (a = 0xFF40 && (x = 0xFF41 || x = 0xFF44 || regionOf x = .vram || regionOf x = .oam))
      || (a = 0xFF46 && dmaBlocked x)
  | .ioSlot => x = a
  | .hram => x = a
  | .ie => x = a

/-- The address an operand of the field `r8` is stored to, if it is memory (R113). -/
def R8.storedAddrs (r : R8) (s : State) : List Word :=
  match r with
  | .reg _ => []
  | .atHL => [s.cpu.hl]

/-- The two bytes of a pushed word (R24, R173). -/
def pushAddrs (s : State) : List Word := [s.cpu.sp - 2, s.cpu.sp - 2 + 1]

/-- The addresses that an instruction of the extended table stores to: `BIT` stores nothing (R237). -/
def extendedStoredAddrs (op2 : Byte) (s : State) : List Word :=
  if fieldX op2 = 1 then [] else (R8.ofField (fieldZ op2)).storedAddrs s

/-- The addresses of the bytes that an instruction of a form stores to, from the state its meaning is given. -/
def storedAddrs (f : Form) (s : State) : List Word :=
  match f with
  | .ld8 d _ => d.storedAddrs s
  | .ld8Imm d _ => d.storedAddrs s
  | .storeA m => [s.indirectAddr m]
  | .ldAbsSp nn => [nn, nn + 1]
  | .push _ => pushAddrs s
  | .inc8 r => r.storedAddrs s
  | .dec8 r => r.storedAddrs s
  | .rot _ r => r.storedAddrs s
  | .res _ r => r.storedAddrs s
  | .set _ r => r.storedAddrs s
  | .call cc _ => if taken cc s.cpu.f then pushAddrs s else []
  | .rst _ => pushAddrs s
  | .prefixCB => extendedStoredAddrs (s.read s.cpu.pc) { s with cpu := { s.cpu with pc := s.cpu.pc + 1 } }
  | .nop | .halt | .stop _ | .di | .ei | .undefined _ | .loadA _ | .ld16 _ _ | .ldSpHl | .pop _ | .alu _ _ | .daa | .cpl
  | .scf | .ccf | .addHl _ | .inc16 _ | .dec16 _ | .addSp _ | .ldHlSp _ | .rotA _ | .bit _ _ | .jp _ _ | .jpHl | .jr _ _
  | .ret _ | .reti => []

/-- The colour index of sprite `i` at column `x` of line `y`, if it reaches that column (R388, R389, R390). -/
def Ppu.spriteIndexAt (p : Ppu) (y x i : Nat) : Option (BitVec 2) :=
  let left := (p.spriteByte i 1).toNat
  if left ≤ x + 8 ∧ x < left then
    let c := x + 8 - left
    some (p.tilePixel (p.spriteTile i) (p.spriteRow y i) (if (p.spriteByte i 3).getLsbD 5 then 7 - c else c))
  else none

/-- Whether sprite `i` shows at column `x` of line `y` over a background of index `bg`: it reaches the column, is opaque there,
and is not behind a background that is not transparent (R388). -/
def Ppu.spriteShows (p : Ppu) (y x : Nat) (bg : BitVec 2) (i : Nat) : Bool :=
  match p.spriteIndexAt y x i with
  | none => false
  | some idx => idx ≠ 0 && !((p.spriteByte i 3).getLsbD 7 && bg ≠ 0)

/-- The shade a sprite gives a pixel (R368, R386, R388). -/
def Ppu.spriteShade (p : Ppu) (y x i : Nat) : BitVec 2 :=
  paletteShade (if (p.spriteByte i 3).getLsbD 4 then p.obp1 else p.obp0) ((p.spriteIndexAt y x i).getD 0)

end Sys2Proof.Machine
end

