-- ==== Sys2Proof/Certificates/Slice0/Obligations.lean ====
section
/-! DEFINITION. The statements for the provers. The state that `exec` is given has PC past the instruction (R25, R128); what a
step does around it is `StepRunsDecodedInstruction`. `s.bus.memRead`, `s.bus.afterRead` and `s.bus.memWrite` are `MemRead` (its
value, and the BUS after it) and `MemWrite`; what they do is stated by the memory statements. -/

open Sys2Proof Sys2Proof.Machine

/-! ## Encoding -/

/-- Decoding the bytes of any well-formed instruction, whatever follows them, gives it back with every operand (R110, R128). -/
def Obligations.EncodeThenDecode : Prop :=
  ∀ (i : Instr) (rest : List Byte), WellFormed i → decode (encode i ++ rest) = .ok (i, rest)

/-- What the decoder reads is encoded by the bytes it was read from (R110, R128). It is well-formed unless those bytes are a prefix
with nothing after it: that a lone 0xCB is read as `prefix_CB`, which `WellFormed` refuses, is the model's choice (log 11). -/
def Obligations.DecodeThenEncode : Prop :=
  ∀ (bytes rest : List Byte) (i : Instr), decode bytes = .ok (i, rest) →
    encode i ++ rest = bytes ∧ (WellFormed i ↔ bytes ≠ [0xCB])

/-- The rows of the two opcode grids (R124, R126), which the decoder is written from, are the field decoding of the opcode byte
(R111 to R123): two readings of the spec that were written apart agree on every opcode and operand. -/
def Obligations.GridAgreesWithFields : Prop :=
  ∀ op b1 b2 : Byte, (decodeBytes op b1 b2).form = formOfBytes op b1 b2

/-- R128: decoding is total; the first byte alone gives the length, 1 to 3 (R110). -/
def Obligations.DecodingIsTotal : Prop :=
  ∀ (op b1 b2 : Byte) (rest : List Byte),
    (1 ≤ instrLength op ∧ instrLength op ≤ 3 ∧ (op = 0xCB → instrLength op = 2)) ∧
    ∃ i, decode (op :: b1 :: b2 :: rest) = .ok (i, (op :: b1 :: b2 :: rest).drop (instrLength op)) ∧
      WellFormed i ∧ (encode i).length = instrLength op ∧ i.form = formOfBytes op b1 b2

/-- Words written out from the spec's own examples decode to the instructions they stand for, one or more a family. -/
def Obligations.SpelledWordsDecode : Prop :=
  decode [0x3E, 0x42] = .ok (.ld_A_n 0x42, []) ∧
  decode [0xEA, 0x00, 0xC0] = .ok (.ld_atNN_A 0xC000, []) ∧
  decode [0x41] = .ok (.ld_B_C, []) ∧
  decode [0x08, 0x00, 0xC1] = .ok (.ld_atNN_SP 0xC100, []) ∧
  decode [0xF5] = .ok (.push_AF, []) ∧
  decode [0x8B] = .ok (.adc_E, []) ∧
  decode [0xEE, 0x0F] = .ok (.xor_n 0x0F, []) ∧
  decode [0xF8, 0x08] = .ok (.ld_HL_SPe 0x08, []) ∧
  decode [0xCB, 0x37] = .ok (.swap_A, []) ∧
  decode [0xCB, 0x65] = .ok (.bit_4_L, []) ∧
  decode [0xC3, 0x50, 0x01] = .ok (.jp_nn 0x0150, []) ∧
  decode [0x20, 0xFB] = .ok (.jr_NZ_e 0xFB, []) ∧
  decode [0xEF] = .ok (.rst_28, []) ∧
  decode [0x76] = .ok (.halt, []) ∧
  decode [0xDD] = .ok (.undef_DD, [])

/-! ## The instructions -/

/-- `LD r,r'`, `LD r,n`, `LD r,(HL)`, `LD (HL),r`, `LD (HL),n` (R140 to R144). -/
def Obligations.ByteLoads : Prop :=
  (∀ (i : Instr) (d r : Reg8) (s : State), i.form = .ld8 (.reg d) (.reg r) →
    encode i = [BitVec.ofNat 8 (0x40 + 8 * d.code + r.code)] ∧
    exec i s = .next { s with cpu := s.cpu.setReg d (s.cpu.reg r), cycles := s.cycles + 4 }) ∧
  (∀ (i : Instr) (d : Reg8) (n : Byte) (s : State), i.form = .ld8Imm (.reg d) n →
    encode i = [BitVec.ofNat 8 (0x06 + 8 * d.code), n] ∧
    exec i s = .next { s with cpu := s.cpu.setReg d n, cycles := s.cycles + 8 }) ∧
  (∀ (i : Instr) (d : Reg8) (s : State), i.form = .ld8 (.reg d) .atHL →
    encode i = [BitVec.ofNat 8 (0x46 + 8 * d.code)] ∧
    exec i s = .next { s with
      cpu := s.cpu.setReg d (s.bus.memRead s.cpu.hl), bus := s.bus.afterRead s.cpu.hl, cycles := s.cycles + 8 }) ∧
  (∀ (i : Instr) (r : Reg8) (s : State), i.form = .ld8 .atHL (.reg r) →
    encode i = [BitVec.ofNat 8 (0x70 + r.code)] ∧
    exec i s = .next { s with bus := s.bus.memWrite s.cpu.hl (s.cpu.reg r), cycles := s.cycles + 8 }) ∧
  (∀ (i : Instr) (n : Byte) (s : State), i.form = .ld8Imm .atHL n →
    encode i = [0x36, n] ∧
    exec i s = .next { s with bus := s.bus.memWrite s.cpu.hl n, cycles := s.cycles + 12 }) ∧
  ∀ i : Instr, i.form ≠ .ld8 .atHL .atHL

/-- The loads of A: `LD A,(BC)`, `(DE)`, `(nn)`, `LDH A,(n)`, `LD A,(C)`, `(HL+)`, `(HL-)` (R145, R146, R149, R151, R153, R155,
R156). -/
def Obligations.AccumulatorLoads : Prop :=
  ∀ (i : Instr) (s : State),
    let loads (a : Word) (n : Nat) : Prop :=
      exec i s = .next { s with
        cpu := { s.cpu with a := s.bus.memRead a }, bus := s.bus.afterRead a, cycles := s.cycles + n }
    (i = .ld_A_atBC → encode i = [0x0A] ∧ loads s.cpu.bc 8) ∧
    (i = .ld_A_atDE → encode i = [0x1A] ∧ loads s.cpu.de 8) ∧
    (∀ nn, i = .ld_A_atNN nn → encode i = [0xFA, loByte nn, hiByte nn] ∧ loads nn 16) ∧
    (∀ n : Byte, i = .ldh_A_atN n → encode i = [0xF0, n] ∧ loads (0xFF00 + n.setWidth 16) 12) ∧
    (i = .ld_A_atC → encode i = [0xF2] ∧ loads (0xFF00 + s.cpu.c.setWidth 16) 8) ∧
    (i = .ld_A_atHLinc → encode i = [0x2A] ∧
      exec i s = .next { s with
        cpu := { s.cpu with a := s.bus.memRead s.cpu.hl, h := hiByte (s.cpu.hl + 1), l := loByte (s.cpu.hl + 1) },
        bus := s.bus.afterRead s.cpu.hl, cycles := s.cycles + 8 }) ∧
    (i = .ld_A_atHLdec → encode i = [0x3A] ∧
      exec i s = .next { s with
        cpu := { s.cpu with a := s.bus.memRead s.cpu.hl, h := hiByte (s.cpu.hl - 1), l := loByte (s.cpu.hl - 1) },
        bus := s.bus.afterRead s.cpu.hl, cycles := s.cycles + 8 })

/-- The stores of A: `LD (BC),A`, `(DE)`, `(nn)`, `LDH (n),A`, `LD (C),A`, `(HL+)`, `(HL-)` (R147, R148, R150, R152, R154, R157,
R158). -/
def Obligations.AccumulatorStores : Prop :=
  ∀ (i : Instr) (s : State),
    let stores (a : Word) (n : Nat) : Prop :=
      exec i s = .next { s with bus := s.bus.memWrite a s.cpu.a, cycles := s.cycles + n }
    (i = .ld_atBC_A → encode i = [0x02] ∧ stores s.cpu.bc 8) ∧
    (i = .ld_atDE_A → encode i = [0x12] ∧ stores s.cpu.de 8) ∧
    (∀ nn, i = .ld_atNN_A nn → encode i = [0xEA, loByte nn, hiByte nn] ∧ stores nn 16) ∧
    (∀ n : Byte, i = .ldh_atN_A n → encode i = [0xE0, n] ∧ stores (0xFF00 + n.setWidth 16) 12) ∧
    (i = .ld_atC_A → encode i = [0xE2] ∧ stores (0xFF00 + s.cpu.c.setWidth 16) 8) ∧
    (i = .ld_atHLinc_A → encode i = [0x22] ∧
      exec i s = .next { s with
        cpu := { s.cpu with h := hiByte (s.cpu.hl + 1), l := loByte (s.cpu.hl + 1) },
        bus := s.bus.memWrite s.cpu.hl s.cpu.a, cycles := s.cycles + 8 }) ∧
    (i = .ld_atHLdec_A → encode i = [0x32] ∧
      exec i s = .next { s with
        cpu := { s.cpu with h := hiByte (s.cpu.hl - 1), l := loByte (s.cpu.hl - 1) },
        bus := s.bus.memWrite s.cpu.hl s.cpu.a, cycles := s.cycles + 8 })

/-- `LD rr,nn`, `LD (nn),SP`, `LD SP,HL` (R170, R171, R172); the pair written reads as the word (R21). -/
def Obligations.WordLoads : Prop :=
  (∀ (i : Instr) (p : R16) (nn : Word) (s : State), i.form = .ld16 p nn →
    encode i = [BitVec.ofNat 8 (0x01 + 16 * p.code), loByte nn, hiByte nn] ∧
    (s.cpu.setReg16 p nn).reg16 p = nn ∧
    exec i s = .next { s with cpu := s.cpu.setReg16 p nn, cycles := s.cycles + 12 }) ∧
  (∀ (i : Instr) (nn : Word) (s : State), i = .ld_atNN_SP nn →
    encode i = [0x08, loByte nn, hiByte nn] ∧
    exec i s = .next { s with
      bus := (s.bus.memWrite nn (loByte s.cpu.sp)).memWrite (nn + 1) (hiByte s.cpu.sp), cycles := s.cycles + 20 }) ∧
  (∀ (i : Instr) (s : State), i = .ld_SP_HL →
    encode i = [0xF9] ∧ exec i s = .next { s with cpu := { s.cpu with sp := s.cpu.hl }, cycles := s.cycles + 8 })

/-- `PUSH rr` and `POP rr`, `POP AF` with the low nibble of F dropped (R173, R174, R175). -/
def Obligations.PushAndPop : Prop :=
  (∀ (i : Instr) (p : R16Stk) (s : State), i.form = .push p →
    encode i = [BitVec.ofNat 8 (0xC5 + 16 * p.code)] ∧
    exec i s = .next { s with
      cpu := { s.cpu with sp := s.cpu.sp - 2 },
      bus := (s.bus.memWrite (s.cpu.sp - 2) (loByte (s.cpu.stk p))).memWrite (s.cpu.sp - 1) (hiByte (s.cpu.stk p)),
      cycles := s.cycles + 16 }) ∧
  (∀ (i : Instr) (p : R16Stk) (s : State), i.form = .pop p →
    let lo := s.bus.memRead s.cpu.sp
    let hi := s.bus.memRead (s.cpu.sp + 1)
    let popped : Cpu := { s.cpu with sp := s.cpu.sp + 2 }
    encode i = [BitVec.ofNat 8 (0xC1 + 16 * p.code)] ∧
    exec i s = .next { s with
      cpu := (match p with
        | .bc => { popped with b := hi, c := lo }
        | .de => { popped with d := hi, e := lo }
        | .hl => { popped with h := hi, l := lo }
        | .af => { popped with a := hi, f := lo &&& 0xF0 }),
      bus := (s.bus.afterRead s.cpu.sp).afterRead (s.cpu.sp + 1),
      cycles := s.cycles + 12 })

/-- The operand forms of the accumulator operations: a register, the byte at HL, an immediate (R185); what each reads, and the
bytes of the eight operations with it. -/
def Obligations.AccumulatorOperands : Prop :=
  (∀ (i : Instr) (op : AluOp) (r : Reg8) (s : State), i.form = .alu op (.r8 (.reg r)) →
    encode i = [BitVec.ofNat 8 (0x80 + 8 * op.code + r.code)] ∧
    (AluSrc.r8 (.reg r)).encoding op = encode i ∧ aluCost (.r8 (.reg r)) = 4 ∧
    s.aluSrc (.r8 (.reg r)) = s.cpu.reg r ∧ (s.noteAluSrc (.r8 (.reg r))).bus = s.bus) ∧
  (∀ (i : Instr) (op : AluOp) (s : State), i.form = .alu op (.r8 .atHL) →
    encode i = [BitVec.ofNat 8 (0x86 + 8 * op.code)] ∧
    (AluSrc.r8 .atHL).encoding op = encode i ∧ aluCost (.r8 .atHL) = 8 ∧
    s.aluSrc (.r8 .atHL) = s.bus.memRead s.cpu.hl ∧ (s.noteAluSrc (.r8 .atHL)).bus = s.bus.afterRead s.cpu.hl) ∧
  (∀ (i : Instr) (op : AluOp) (n : Byte) (s : State), i.form = .alu op (.imm n) →
    encode i = [BitVec.ofNat 8 (0xC6 + 8 * op.code), n] ∧
    (AluSrc.imm n).encoding op = encode i ∧ aluCost (.imm n) = 8 ∧
    s.aluSrc (.imm n) = n ∧ (s.noteAluSrc (.imm n)).bus = s.bus)

/-- `ADD`, `ADC`, `SUB`, `SBC`, `CP` of every operand form: the result, the four flags, nothing else (R186 to R189, R193). -/
def Obligations.AccumulatorArithmetic : Prop :=
  ∀ (i : Instr) (src : AluSrc) (s : State),
    let a := s.cpu.a
    let v := s.aluSrc src
    let ci := fC s.cpu.f
    let answers (op : AluOp) (res : Byte) (z n h c : Bool) : Prop :=
      encode i = src.encoding op ∧ ∃ f, FlagsAre f z n h c ∧
        exec i s = .next { s with
          cpu := { s.cpu with a := res, f := f }, bus := (s.noteAluSrc src).bus, cycles := s.cycles + aluCost src }
    (i.form = .alu .add src →
      answers .add (a + v) (a + v = 0) false (a.toNat % 16 + v.toNat % 16 > 15) (a.toNat + v.toNat > 255)) ∧
    (i.form = .alu .adc src →
      answers .adc (a + v + bitByte ci) (a + v + bitByte ci = 0) false
        (a.toNat % 16 + v.toNat % 16 + ci.toNat > 15) (a.toNat + v.toNat + ci.toNat > 255)) ∧
    (i.form = .alu .sub src →
      answers .sub (a - v) (a = v) true (a.toNat % 16 < v.toNat % 16) (a.toNat < v.toNat)) ∧
    (i.form = .alu .sbc src →
      answers .sbc (a - v - bitByte ci) (a - v - bitByte ci = 0) true
        (a.toNat % 16 < v.toNat % 16 + ci.toNat) (a.toNat < v.toNat + ci.toNat)) ∧
    (i.form = .alu .cp src →
      answers .cp a (a = v) true (a.toNat % 16 < v.toNat % 16) (a.toNat < v.toNat))

/-- `AND`, `XOR`, `OR` of every operand form (R190, R191, R192). -/
def Obligations.AccumulatorLogic : Prop :=
  ∀ (i : Instr) (src : AluSrc) (s : State),
    let answers (op : AluOp) (res : Byte) (h : Bool) : Prop :=
      encode i = src.encoding op ∧ ∃ f, FlagsAre f (res = 0) false h false ∧
        exec i s = .next { s with
          cpu := { s.cpu with a := res, f := f }, bus := (s.noteAluSrc src).bus, cycles := s.cycles + aluCost src }
    (i.form = .alu .and src → answers .and (s.cpu.a &&& s.aluSrc src) true) ∧
    (i.form = .alu .xor src → answers .xor (s.cpu.a ^^^ s.aluSrc src) false) ∧
    (i.form = .alu .or src → answers .or (s.cpu.a ||| s.aluSrc src) false)

/-- `INC r`, `INC (HL)`, `DEC r`, `DEC (HL)`: C is kept (R194 to R197). -/
def Obligations.ByteIncrements : Prop :=
  (∀ (i : Instr) (r : Reg8) (s : State), i.form = .inc8 (.reg r) →
    let v := s.cpu.reg r
    encode i = [BitVec.ofNat 8 (0x04 + 8 * r.code)] ∧
    ∃ f, FlagsAre f (v + 1 = 0) false (v.toNat % 16 = 15) (fC s.cpu.f) ∧
      exec i s = .next { s with cpu := { s.cpu.setReg r (v + 1) with f := f }, cycles := s.cycles + 4 }) ∧
  (∀ (i : Instr) (s : State), i.form = .inc8 .atHL →
    let v := s.bus.memRead s.cpu.hl
    encode i = [0x34] ∧
    ∃ f, FlagsAre f (v + 1 = 0) false (v.toNat % 16 = 15) (fC s.cpu.f) ∧
      exec i s = .next { s with
        cpu := { s.cpu with f := f }, bus := (s.bus.afterRead s.cpu.hl).memWrite s.cpu.hl (v + 1),
        cycles := s.cycles + 12 }) ∧
  (∀ (i : Instr) (r : Reg8) (s : State), i.form = .dec8 (.reg r) →
    let v := s.cpu.reg r
    encode i = [BitVec.ofNat 8 (0x05 + 8 * r.code)] ∧
    ∃ f, FlagsAre f (v - 1 = 0) true (v.toNat % 16 = 0) (fC s.cpu.f) ∧
      exec i s = .next { s with cpu := { s.cpu.setReg r (v - 1) with f := f }, cycles := s.cycles + 4 }) ∧
  (∀ (i : Instr) (s : State), i.form = .dec8 .atHL →
    let v := s.bus.memRead s.cpu.hl
    encode i = [0x35] ∧
    ∃ f, FlagsAre f (v - 1 = 0) true (v.toNat % 16 = 0) (fC s.cpu.f) ∧
      exec i s = .next { s with
        cpu := { s.cpu with f := f }, bus := (s.bus.afterRead s.cpu.hl).memWrite s.cpu.hl (v - 1),
        cycles := s.cycles + 12 })

/-- `DAA`, by the two corrections that fire, each on the value of A before any (R198); `CPL`, `SCF`, `CCF` (R199, R200, R201). -/
def Obligations.AccumulatorAdjusts : Prop :=
  (encode .daa = [0x27] ∧
  ∀ s : State,
    let a := s.cpu.a
    let low := fH s.cpu.f || (!fN s.cpu.f && decide (a.toNat % 16 > 9))
    let high := fC s.cpu.f || (!fN s.cpu.f && decide (a.toNat > 0x99))
    let adj : Byte := (if low then 0x06 else 0) + (if high then 0x60 else 0)
    let res := if fN s.cpu.f then a - adj else a + adj
    ∃ f, FlagsAre f (res = 0) (fN s.cpu.f) false high ∧
      exec .daa s = .next { s with cpu := { s.cpu with a := res, f := f }, cycles := s.cycles + 4 }) ∧
  (encode .cpl = [0x2F] ∧ encode .scf = [0x37] ∧ encode .ccf = [0x3F]) ∧
  ∀ s : State,
    (∃ f, FlagsAre f (fZ s.cpu.f) true true (fC s.cpu.f) ∧
      exec .cpl s = .next { s with cpu := { s.cpu with a := ~~~s.cpu.a, f := f }, cycles := s.cycles + 4 }) ∧
    (∃ f, FlagsAre f (fZ s.cpu.f) false false true ∧
      exec .scf s = .next { s with cpu := { s.cpu with f := f }, cycles := s.cycles + 4 }) ∧
    (∃ f, FlagsAre f (fZ s.cpu.f) false false (!fC s.cpu.f) ∧
      exec .ccf s = .next { s with cpu := { s.cpu with f := f }, cycles := s.cycles + 4 })

/-- `ADD HL,rr`, `INC rr`, `DEC rr` (R215, R216, R217); `ADD SP,e` and `LD HL,SP+e`, whose sum takes e signed and whose flags take
the low bytes unsigned (R218, R219, R220). -/
def Obligations.WordArithmetic : Prop :=
  (∀ (i : Instr) (p : R16) (s : State),
    let v := s.cpu.reg16 p
    (i.form = .addHl p →
      encode i = [BitVec.ofNat 8 (0x09 + 16 * p.code)] ∧
      ∃ f, FlagsAre f (fZ s.cpu.f) false (s.cpu.hl.toNat % 0x1000 + v.toNat % 0x1000 > 0x0FFF)
          (s.cpu.hl.toNat + v.toNat > 0xFFFF) ∧
        exec i s = .next { s with
          cpu := { s.cpu with h := hiByte (s.cpu.hl + v), l := loByte (s.cpu.hl + v), f := f },
          cycles := s.cycles + 8 }) ∧
    (i.form = .inc16 p →
      encode i = [BitVec.ofNat 8 (0x03 + 16 * p.code)] ∧
      exec i s = .next { s with cpu := s.cpu.setReg16 p (v + 1), cycles := s.cycles + 8 }) ∧
    (i.form = .dec16 p →
      encode i = [BitVec.ofNat 8 (0x0B + 16 * p.code)] ∧
      exec i s = .next { s with cpu := s.cpu.setReg16 p (v - 1), cycles := s.cycles + 8 })) ∧
  ∀ (e : Byte) (s : State),
    let res := s.cpu.sp + e.signExtend 16
    let h := decide (s.cpu.sp.toNat % 16 + e.toNat % 16 > 15)
    let c := decide (s.cpu.sp.toNat % 256 + e.toNat > 255)
    (encode (.add_SP_e e) = [0xE8, e] ∧
      ∃ f, FlagsAre f false false h c ∧
        exec (.add_SP_e e) s = .next { s with cpu := { s.cpu with sp := res, f := f }, cycles := s.cycles + 16 }) ∧
    (encode (.ld_HL_SPe e) = [0xF8, e] ∧
      ∃ f, FlagsAre f false false h c ∧
        exec (.ld_HL_SPe e) s = .next { s with
          cpu := { s.cpu with h := hiByte res, l := loByte res, f := f }, cycles := s.cycles + 12 })

/-- `RLCA`, `RRCA`, `RLA`, `RRA`: Z is cleared whatever the result (R225 to R228); `RLC`, `RRC`, `RL`, `RR`, `SLA`, `SRA`,
`SWAP`, `SRL` of a register and of the byte at HL (R229 to R236, R240). -/
def Obligations.RotatesAndShifts : Prop :=
  (∀ (i : Instr) (op : RotOp) (s : State), i.form = .rotA op →
    (encode i = [BitVec.ofNat 8 (0x07 + 8 * op.code)] ∧ op.code < 4) ∧
    ∃ f, FlagsAre f false false false (op.bitOut s.cpu.a) ∧
      exec i s = .next { s with
        cpu := { s.cpu with a := op.shifted s.cpu.a (fC s.cpu.f), f := f }, cycles := s.cycles + 4 }) ∧
  (∀ (i : Instr) (op : RotOp) (r : Reg8) (s : State), i.form = .rot op (.reg r) →
    let res := op.shifted (s.cpu.reg r) (fC s.cpu.f)
    encode i = [0xCB, BitVec.ofNat 8 (8 * op.code + r.code)] ∧
    ∃ f, FlagsAre f (res = 0) false false (op.bitOut (s.cpu.reg r)) ∧
      exec i s = .next { s with cpu := { s.cpu.setReg r res with f := f }, cycles := s.cycles + 8 }) ∧
  (∀ (i : Instr) (op : RotOp) (s : State), i.form = .rot op .atHL →
    let v := s.bus.memRead s.cpu.hl
    let res := op.shifted v (fC s.cpu.f)
    encode i = [0xCB, BitVec.ofNat 8 (8 * op.code + 6)] ∧
    ∃ f, FlagsAre f (res = 0) false false (op.bitOut v) ∧
      exec i s = .next { s with
        cpu := { s.cpu with f := f }, bus := (s.bus.afterRead s.cpu.hl).memWrite s.cpu.hl res,
        cycles := s.cycles + 16 })

/-- `BIT b`: flags only (R237); `RES b` and `SET b`: one bit of the operand, no flag (R238, R239). The byte that `RES` and `SET`
write is said bit by bit. -/
def Obligations.BitOperations : Prop :=
  (∀ (i : Instr) (b : Nat) (r : R8) (s : State), i.form = .bit b r →
    (b < 8 ∧ encode i = [0xCB, BitVec.ofNat 8 (0x40 + 8 * b + r.code)]) ∧
    ∃ f, FlagsAre f (!(s.r8 r).getLsbD b) false true (fC s.cpu.f) ∧
      exec i s = .next { s with
        cpu := { s.cpu with f := f }, bus := (s.noteR8 r).bus, cycles := s.cycles + if r = .atHL then 12 else 8 }) ∧
  (∀ (i : Instr) (b : Nat) (r : R8) (s : State) (bit : Bool),
    (i.form = .res b r ∧ bit = false ∨ i.form = .set b r ∧ bit = true) →
    (b < 8 ∧ encode i = [0xCB, BitVec.ofNat 8 ((if bit then 0xC0 else 0x80) + 8 * b + r.code)]) ∧
    ∃ res : Byte, (∀ k, k < 8 → res.getLsbD k = if k = b then bit else (s.r8 r).getLsbD k) ∧
      match r with
      | .reg q => exec i s = .next { s with cpu := s.cpu.setReg q res, cycles := s.cycles + 8 }
      | .atHL => exec i s = .next { s with
          bus := (s.bus.afterRead s.cpu.hl).memWrite s.cpu.hl res, cycles := s.cycles + 16 })

/-- `JP nn`, `JP cc,nn`, `JP HL`, `JR e`, `JR cc,e` (R250 to R254), and the four conditions, which calls and returns use too
(R117). -/
def Obligations.Jumps : Prop :=
  (∀ f : Byte, (Cond.nz.holds f = !f.getLsbD 7) ∧ Cond.z.holds f = f.getLsbD 7 ∧
    (Cond.nc.holds f = !f.getLsbD 4) ∧ Cond.c.holds f = f.getLsbD 4) ∧
  ∀ s : State,
    let goes (i : Instr) (pc : Word) (n : Nat) : Prop :=
      exec i s = .next { s with cpu := { s.cpu with pc := pc }, cycles := s.cycles + n }
    (∀ nn, encode (.jp_nn nn) = [0xC3, loByte nn, hiByte nn] ∧ goes (.jp_nn nn) nn 16) ∧
    (∀ (i : Instr) (cc : Cond) (nn : Word), i.form = .jp (some cc) nn →
      encode i = [BitVec.ofNat 8 (0xC2 + 8 * cc.code), loByte nn, hiByte nn] ∧
      if cc.holds s.cpu.f then goes i nn 16 else goes i s.cpu.pc 12) ∧
    (encode .jp_HL = [0xE9] ∧ goes .jp_HL s.cpu.hl 4) ∧
    (∀ e : Byte, encode (.jr_e e) = [0x18, e] ∧ goes (.jr_e e) (s.cpu.pc + e.signExtend 16) 12) ∧
    (∀ (i : Instr) (cc : Cond) (e : Byte), i.form = .jr (some cc) e →
      encode i = [BitVec.ofNat 8 (0x20 + 8 * cc.code), e] ∧
      if cc.holds s.cpu.f then goes i (s.cpu.pc + e.signExtend 16) 12 else goes i s.cpu.pc 8)

/-- `CALL nn`, `CALL cc,nn`, `RST t` (R255, R256, R260). -/
def Obligations.Calls : Prop :=
  ∀ s : State,
    let calls (i : Instr) (target : Word) (n : Nat) : Prop :=
      exec i s = .next { s with
        cpu := { s.cpu with sp := s.cpu.sp - 2, pc := target },
        bus := (s.bus.memWrite (s.cpu.sp - 2) (loByte s.cpu.pc)).memWrite (s.cpu.sp - 1) (hiByte s.cpu.pc),
        cycles := s.cycles + n }
    (∀ nn, encode (.call_nn nn) = [0xCD, loByte nn, hiByte nn] ∧ calls (.call_nn nn) nn 24) ∧
    (∀ (i : Instr) (cc : Cond) (nn : Word), i.form = .call (some cc) nn →
      encode i = [BitVec.ofNat 8 (0xC4 + 8 * cc.code), loByte nn, hiByte nn] ∧
      if cc.holds s.cpu.f then calls i nn 24 else exec i s = .next { s with cycles := s.cycles + 12 }) ∧
    (∀ (i : Instr) (t : Nat), i.form = .rst t →
      (t < 8 ∧ encode i = [BitVec.ofNat 8 (0xC7 + 8 * t)]) ∧ calls i (BitVec.ofNat 16 (8 * t)) 16)

/-- `RET`, `RET cc`, `RETI` (R257, R258, R259). -/
def Obligations.Returns : Prop :=
  ∀ s : State,
    let target := mkWord (s.bus.memRead (s.cpu.sp + 1)) (s.bus.memRead s.cpu.sp)
    let popped := (s.bus.afterRead s.cpu.sp).afterRead (s.cpu.sp + 1)
    let returns (i : Instr) (n : Nat) : Prop :=
      exec i s = .next { s with
        cpu := { s.cpu with sp := s.cpu.sp + 2, pc := target }, bus := popped, cycles := s.cycles + n }
    (encode .ret = [0xC9] ∧ returns .ret 16) ∧
    (∀ (i : Instr) (cc : Cond), i.form = .ret (some cc) →
      encode i = [BitVec.ofNat 8 (0xC0 + 8 * cc.code)] ∧
      if cc.holds s.cpu.f then returns i 20 else exec i s = .next { s with cycles := s.cycles + 8 }) ∧
    (encode .reti = [0xD9] ∧
      exec .reti s = .next { s with
        cpu := { s.cpu with sp := s.cpu.sp + 2, pc := target, ime := true, imePending := false }, bus := popped,
        cycles := s.cycles + 16 })

/-- `NOP`, `HALT`, `STOP`, `DI`, `EI` (R270 to R274). -/
def Obligations.SystemInstructions : Prop :=
  (encode .nop = [0x00] ∧ encode .halt = [0x76] ∧ encode .di = [0xF3] ∧ encode .ei = [0xFB]) ∧
  (∀ x : Byte, encode (.stop x) = [0x10, x]) ∧
  ∀ s : State,
    exec .nop s = .next { s with cycles := s.cycles + 4 } ∧
    exec .halt s = .next { s with cpu := { s.cpu with halted := true }, cycles := s.cycles + 4 } ∧
    (∀ x, exec (.stop x) s = .next { s with cpu := { s.cpu with stopped := true }, cycles := s.cycles + 4 }) ∧
    exec .di s = .next { s with cpu := { s.cpu with ime := false, imePending := false }, cycles := s.cycles + 4 } ∧
    exec .ei s = .next { s with
      cpu := { s.cpu with imePending := s.cpu.imePending || !s.cpu.ime }, cycles := s.cycles + 4 }

/-- The eleven undefined opcodes record the anomaly with their address and do nothing else (R276); the prefix 0xCB executes the
extended instruction that the next byte selects (R275). -/
def Obligations.UndefinedAndPrefix : Prop :=
  (∀ (i : Instr) (op : Byte) (s : State), i.form = .undefined op →
    (encode i = [op] ∧
      op ∈ ([0xD3, 0xDB, 0xDD, 0xE3, 0xE4, 0xEB, 0xEC, 0xED, 0xF4, 0xFC, 0xFD] : List Byte)) ∧
    ∃ l : List Anomaly, (∀ x, x ∈ l ↔ x ∈ s.bus.anomaly ∨ x = .unknownOpcode op (s.cpu.pc - 1)) ∧
      exec i s = .next { s with bus := { s.bus with anomaly := l }, cycles := s.cycles + 4 }) ∧
  (∀ s : State, encode .prefix_CB = [0xCB] ∧
    ∃ i, decode [0xCB, s.bus.memRead s.cpu.pc] = .ok (i, []) ∧
      exec .prefix_CB s = exec i { s with
        cpu := { s.cpu with pc := s.cpu.pc + 1 }, bus := s.bus.afterRead s.cpu.pc })

/-- THE MEMORY FRAME of every instruction. `storedAddrs` computes the addresses of the bytes that the instruction stores (none
for a form that stores nothing); whatever address none of those stores affects (its aliases, and the side effects of R82, are in
`writeAffects`) reads as before, through the CPU and ungated. A form that stores nothing changes nothing of the BUS but the
anomaly set. -/
def Obligations.MemoryFrame : Prop :=
  ∀ (i : Instr) (s t : State), exec i s = .next t →
    (∀ x : Word, (∀ a ∈ storedAddrs i.form s, s.bus.writeAffects a.toNat x.toNat = false) →
      t.bus.memRead x = s.bus.memRead x ∧ t.bus.get x.toNat = s.bus.get x.toNat) ∧
    (storedAddrs i.form s = [] → t.bus = { s.bus with anomaly := t.bus.anomaly })

/-! ## Memory -/

/-- R70, R76, R81: a CPU read gives the sentinel 0xFF from work RAM and echo while a transfer runs, else what the BUS reads; it
changes nothing but the anomaly set, where a read of the hole is recorded, and no later read. A write is dropped exactly where a read is blocked (R71, R76). -/
def Obligations.CpuAccess : Prop :=
  ∀ (b : Bus) (a : Word) (v : Byte),
    let blocked := b.ppu.dmaActive = true ∧ 0xC000 ≤ a.toNat ∧ a.toNat ≤ 0xFDFF
    (blocked → b.memRead a = 0xFF ∧ b.afterRead a = b ∧ b.memWrite a v = b) ∧
    (¬ blocked → b.memRead a = b.read a.toNat ∧ b.memWrite a v = b.write a.toNat v) ∧
    b.afterRead a = { b with anomaly := (b.afterRead a).anomaly } ∧
    (∀ x : Word, (b.afterRead a).memRead x = b.memRead x) ∧
    (¬ (0xFEA0 ≤ a.toNat ∧ a.toNat ≤ 0xFEFF) → b.afterRead a = b) ∧
    (0xFEA0 ≤ a.toNat ∧ a.toNat ≤ 0xFEFF → .unmappedAddress a .read ∈ (b.afterRead a).anomaly)

/-- Storage reads back: a byte written to work RAM or its echo is read at both addresses (R65, R66), one written to an unowned
I/O slot or high RAM at its own (R69, R73), and so is one written to IF or IE. That bits 7:5 of IF and IE read back too is the
model's choice (log 9, after D15). -/
def Obligations.StorageReadsBack : Prop :=
  ∀ (b : Bus) (v : Byte),
    (∀ k, k < 0x2000 → (b.write (0xC000 + k) v).read (0xC000 + k) = v) ∧
    (∀ k, k < 0x1E00 → (b.write (0xC000 + k) v).read (0xE000 + k) = v ∧
      (b.write (0xE000 + k) v).read (0xC000 + k) = v ∧ b.read (0xE000 + k) = b.read (0xC000 + k)) ∧
    (∀ a, (0xFF01 ≤ a ∧ a ≤ 0xFF03 ∨ 0xFF08 ≤ a ∧ a ≤ 0xFF3F ∨ 0xFF4C ≤ a ∧ a ≤ 0xFFFF) → (b.write a v).read a = v) ∧
    (b.write 0xFF0F v).ifReg = v ∧ (b.write 0xFFFF v).ie = v

/-- What a write of the BUS cannot affect reads as before (R60 to R75, R82); a write to the hole 0xFEA0..0xFEFF changes nothing
but the anomaly set, which holds its record (R68). -/
def Obligations.WriteFrame : Prop :=
  ∀ (b : Bus) (a : Word) (v : Byte),
    (∀ x : Word, b.writeAffects a.toNat x.toNat = false →
      (b.memWrite a v).memRead x = b.memRead x ∧ (b.memWrite a v).get x.toNat = b.get x.toNat) ∧
    (0xFEA0 ≤ a.toNat ∧ a.toNat ≤ 0xFEFF →
      b.memWrite a v = { b with anomaly := (b.memWrite a v).anomaly } ∧
      .unmappedAddress a .write ∈ (b.memWrite a v).anomaly)

/-- R379, R380: video RAM is closed in mode 3, object memory in modes 2 and 3; `get` and `set` are never gated. -/
def Obligations.DisplayGating : Prop :=
  ∀ (p : Ppu) (v : Byte),
    (∀ k, k < 0x2000 →
      p.read (0x8000 + k) = (if p.mode = 3 then 0xFF else Memory.read p.vram k) ∧
      p.write (0x8000 + k) v = (if p.mode = 3 then p else { p with vram := Memory.write p.vram k v }) ∧
      p.get (0x8000 + k) = Memory.read p.vram k ∧
      p.set (0x8000 + k) v = { p with vram := Memory.write p.vram k v }) ∧
    (∀ k, k < 160 →
      p.read (0xFE00 + k) = (if p.mode = 2 ∨ p.mode = 3 then 0xFF else Memory.read p.oam k) ∧
      p.write (0xFE00 + k) v = (if p.mode = 2 ∨ p.mode = 3 then p else { p with oam := Memory.write p.oam k v }) ∧
      p.get (0xFE00 + k) = Memory.read p.oam k ∧
      p.set (0xFE00 + k) v = { p with oam := Memory.write p.oam k v })

/-! ## The step -/

/-- A STEP RUNS THE DECODED INSTRUCTION (R128, R300, R305): where the bytes at PC after the interrupt check decode to `i`, the step
is the execution of `i` with PC past its bytes and those bytes' reads noted, then the EI promotion, then the advance of the
peripherals. -/
def Obligations.StepRunsDecodedInstruction : Prop :=
  ∀ (s t : State) (i : Instr) (rest : List Byte),
    s.beginStep.interruptCheck = t → t.cpu.halted = false → t.cpu.stopped = false →
    decode [t.bus.memRead t.cpu.pc, t.bus.memRead (t.cpu.pc + 1), t.bus.memRead (t.cpu.pc + 2)] = .ok (i, rest) →
    ∃ u : State,
      exec i { t with
        cpu := { t.cpu with pc := t.cpu.pc + BitVec.ofNat 16 (encode i).length },
        bus := (List.range (encode i).length).foldl (fun b k => b.afterRead (t.cpu.pc + BitVec.ofNat 16 k)) t.bus } = .next u ∧
      step s = .next (if t.cpu.imePending && u.cpu.imePending
        then { u with cpu := { u.cpu with ime := true, imePending := false } } else u).advanceBoard

/-- R301: no instruction and no state stops the machine. Every instruction, in every state, and every step has a next state; a
step's cost is a multiple of 4 (R7), at least 4 and at most a dispatch and the dearest instruction (R308, R489). -/
def Obligations.EveryStepHasNext : Prop :=
  (∀ (i : Instr) (s : State), ∃ t, exec i s = .next t) ∧
  ∀ s : State, ∃ t, step s = .next t ∧ t.cycles % 4 = 0 ∧ 4 ≤ t.cycles ∧ t.cycles ≤ 44

/-- R277, R278: a halted or stopped step fetches nothing, costs 4 cycles and changes nothing of the CPU but the EI promotion. -/
def Obligations.IdleStep : Prop :=
  ∀ s t : State, s.beginStep.interruptCheck = t → (t.cpu.halted = true ∨ t.cpu.stopped = true) →
    step s = .next (State.advanceBoard { t with
      cpu := (if t.cpu.imePending then { t.cpu with ime := true, imePending := false } else t.cpu),
      cycles := t.cycles + 4 })

/-- THE INTERRUPT CHECK. Taking an interrupt (R306, R308, R309, R310): with IME set, the pending source of the lowest number is
dispatched: its request is cleared, PC is pushed, PC is the vector, IME is cleared, 20 cycles are added, a halted CPU wakes,
nothing else changes. No dispatch (R307, R310): with nothing pending the check changes nothing; with IME clear a pending enabled
request wakes a halted CPU and changes nothing else. -/
def Obligations.InterruptCheck : Prop :=
  (∀ (s : State) (n : Nat), s.cpu.ime = true → n < 5 →
    (s.bus.ie.getLsbD n = true ∧ s.bus.ifReg.getLsbD n = true) →
    (∀ m, m < n → ¬ (s.bus.ie.getLsbD m = true ∧ s.bus.ifReg.getLsbD m = true)) →
    ∃ f : Byte, (∀ k, k < 8 → f.getLsbD k = if k = n then false else s.bus.ifReg.getLsbD k) ∧
      s.interruptCheck = { s with
        cpu := { s.cpu with
          halted := false, ime := false, sp := s.cpu.sp - 2, pc := BitVec.ofNat 16 (0x40 + 8 * n) },
        bus := ((s.bus.setIf f).memWrite (s.cpu.sp - 2) (loByte s.cpu.pc)).memWrite (s.cpu.sp - 1) (hiByte s.cpu.pc),
        cycles := s.cycles + 20 }) ∧
  ∀ s : State,
    (s.bus.ie &&& s.bus.ifReg &&& 0x1F = 0 → s.interruptCheck = s) ∧
    (s.cpu.ime = false → s.bus.ie &&& s.bus.ifReg &&& 0x1F ≠ 0 →
      s.interruptCheck = { s with cpu := { s.cpu with halted := false } })

/-- R311: an EI that waits when a step begins has set IME at its end, unless the step's instruction is `DI`. R30, R311: a step
sets IME only where an EI waited before it or its instruction is `RETI`; so an `EI` never acts in its own step. -/
def Obligations.MasterEnableLatency : Prop :=
  (∀ s t : State, step s = .next t → s.cpu.ime = false → s.cpu.imePending = true →
    let u := s.beginStep.interruptCheck
    (u.cpu.halted = false ∧ u.cpu.stopped = false ∧ u.fetchInstr.1 = .di → t.cpu.ime = false ∧ t.cpu.imePending = false) ∧
    (¬ (u.cpu.halted = false ∧ u.cpu.stopped = false ∧ u.fetchInstr.1 = .di) → t.cpu.ime = true ∧ t.cpu.imePending = false)) ∧
  ∀ s t : State, step s = .next t → s.cpu.ime = false → s.cpu.imePending = false → t.cpu.ime = true →
    let u := s.beginStep.interruptCheck
    u.cpu.halted = false ∧ u.cpu.stopped = false ∧ u.fetchInstr.1 = .reti

/-- R272, R484: nothing leaves the stopped state: after any number of steps the CPU is still stopped, with the registers it
had, and without an interrupt dispatch with its SP and PC too. -/
def Obligations.StopIsFinal : Prop :=
  ∀ (n : Nat) (s : State), s.cpu.stopped = true →
    ∃ t : State, Sys2Proof.core.run n s = .next t ∧ t.cpu.stopped = true ∧
      (t.cpu.a = s.cpu.a ∧ t.cpu.f = s.cpu.f ∧ t.cpu.b = s.cpu.b ∧ t.cpu.c = s.cpu.c ∧ t.cpu.d = s.cpu.d ∧
        t.cpu.e = s.cpu.e ∧ t.cpu.h = s.cpu.h ∧ t.cpu.l = s.cpu.l) ∧
      (s.cpu.ime = false → s.cpu.imePending = false → t.cpu.sp = s.cpu.sp ∧ t.cpu.pc = s.cpu.pc)

/-- R271, R487: a halted CPU with no source enabled never wakes: after any number of steps it is still halted, and nothing of it
but the EI latch has changed. -/
def Obligations.HaltWithNothingEnabled : Prop :=
  ∀ (n : Nat) (s : State), s.cpu.halted = true → s.bus.ie &&& 0x1F = 0 →
    ∃ t : State, Sys2Proof.core.run n s = .next t ∧ t.bus.ie = s.bus.ie ∧
      t.cpu = { s.cpu with ime := t.cpu.ime, imePending := t.cpu.imePending }

/-- The end of a step (R305), `u` being the state after the instruction. Timer, PPU and Joypad advance, in R321's order; their
requests are ORed into IF at bits 0, 1, 2 and 4, its other bits are untouched, and the request outputs are cleared; nothing else
changes. How far they advance: one tick of the Timer a cycle (R350), one tick-of-4 of the PPU every four cycles (R376), which is
the DMA engine's tick and then the display's (R372); the engine's changes only object memory, its own counter and activity, and
the anomaly set, and an idle engine nothing (R392). -/
def Obligations.RequestsMerged : Prop :=
  (∀ u : State,
    let timer := u.bus.timer.run u.cycles
    let advanced := Bus.ppuRun { u.bus with timer := timer } u.cycles
    let joypad := u.bus.joypad.refresh u.pressed
    let b := u.advanceBoard.bus
    (∀ k, b.ifReg.getLsbD k = (u.bus.ifReg.getLsbD k || (k = 0 && advanced.ppu.vblankReq) || (k = 1 && advanced.ppu.statReq)
      || (k = 2 && timer.req) || (k = 4 && joypad.req))) ∧
    (∀ k, k ≠ 0x0F → Memory.read b.io k = Memory.read u.bus.io k) ∧
    u.advanceBoard = { u with
      bus := { advanced with
        timer := { timer with req := false }
        joypad := { joypad with req := false }
        ppu := { advanced.ppu with vblankReq := false, statReq := false }
        io := b.io }
      inputs := u.inputs.tail }) ∧
  (∀ (t : Timer) (c : Nat), t.run c = Timer.tick^[c] t) ∧
  ∀ (b : Bus) (c : Nat),
    b.ppuRun c = Bus.tick4^[c / 4] b ∧
    b.tick4 = { b.dmaTick4 with ppu := b.dmaTick4.ppu.advance } ∧
    b.dmaTick4 = { b with
      anomaly := b.dmaTick4.anomaly
      ppu := { b.ppu with
        oam := b.dmaTick4.ppu.oam, dmaTick := b.dmaTick4.ppu.dmaTick, dmaActive := b.dmaTick4.ppu.dmaActive } } ∧
    (b.ppu.dmaActive = false → b.dmaTick4 = b)

/-! ## Invariants that every step keeps -/

/-- R23: `F[3:0] = 0`, and R311: IME = 1 implies `ime_pending` = 0, are kept by every step. -/
def Obligations.CpuInvariant : Prop :=
  ∀ s t : State, step s = .next t →
    (s.cpu.FlagsOk → t.cpu.FlagsOk) ∧ (s.cpu.ImeOk → t.cpu.ImeOk)

/-- Every array stays in its canonical form and inside its size, and the DMA counter in its range (R38, R39, R41, R42, R432). -/
def Obligations.ArraysInvariant : Prop :=
  ∀ s t : State, s.bus.ArraysOk → s.bus.ppu.DmaOk → step s = .next t → t.bus.ArraysOk ∧ t.bus.ppu.DmaOk

/-- R370, R371, R377, R363: the display's position stays in the frame, its mode is the position's, STAT bit 7 stays 0. -/
def Obligations.DisplayInvariant : Prop :=
  ∀ s t : State, s.bus.ppu.Ok → step s = .next t → t.bus.ppu.Ok

/-- R62, R422, R435: no step changes the ROM, the variant or the sizes; R427: no step selects bank 0. -/
def Obligations.CartridgeInvariant : Prop :=
  ∀ s t : State, step s = .next t →
    (t.bus.cart.rom = s.bus.cart.rom ∧ t.bus.cart.variant = s.bus.cart.variant ∧
      t.bus.cart.romBanks = s.bus.cart.romBanks ∧ t.bus.cart.ramSize = s.bus.cart.ramSize) ∧
    (s.bus.cart.SelectorsOk → t.bus.cart.SelectorsOk)

/-- R44: no step removes a record, and the record has no effect on any other state: from states that differ in it only, steps
lead to states that differ in it only; R302: no step records an unknown register. -/
def Obligations.Anomalies : Prop :=
  (∀ s t : State, step s = .next t →
    (∀ x ∈ s.bus.anomaly, x ∈ t.bus.anomaly) ∧
    (∀ a, .unknownRegister a ∈ t.bus.anomaly → .unknownRegister a ∈ s.bus.anomaly)) ∧
  ∀ (s t : State) (l : List Anomaly), step s = .next t →
    ∃ l', step { s with bus := { s.bus with anomaly := l } } = .next { t with bus := { t.bus with anomaly := l' } }

/-- The invariants hold after reset (R23, R50, R311, R436). Those of the CPU and the display: for every cartridge and every RESET and
RAM_INIT. Those of the arrays and the selectors: in every state that construction gives of an image and a RAM_INIT whose lists are
in canonical form, for every RESET; and in `State.reset`, whose registers, RAM contents and cartridge are the model's choice (log
1, 2, 3). -/
def Obligations.ResetMeetsInvariants : Prop :=
  (∀ (cart : Cart) (r : Config.ResetRegs) (m : RamInit),
    let s := State.atReset cart r m
    s.cpu.FlagsOk ∧ s.cpu.ImeOk ∧ s.bus.ppu.Ok ∧ s.bus.ppu.DmaOk) ∧
  (∀ (img : Image) (r : Config.ResetRegs) (m : RamInit) (s : State),
    Memory.wf img.len img.bytes → Memory.wf Config.wramSize m.wram → Memory.wf Config.hramSize m.hram →
    Memory.wf Config.vramSize m.vram → Memory.wf Config.oamSize m.oam → Memory.wf 0x8000 m.cartRam →
    construct img r m = .ok s → s.bus.ArraysOk ∧ s.bus.cart.SelectorsOk) ∧
  State.reset.bus.ArraysOk ∧ State.reset.bus.cart.SelectorsOk

/-! ## Reset and construction -/

/-- R50, R471: the reset state, for every value of the open parameters RESET and RAM_INIT and every accepted cartridge. Of a read of
STAT bits 6:0 only are stated. -/
def Obligations.ResetState : Prop :=
  ∀ (cart : Cart) (r : Config.ResetRegs) (m : RamInit),
    let s := State.atReset cart r m
    (s.cpu.a = r.a ∧ s.cpu.b = r.b ∧ s.cpu.c = r.c ∧ s.cpu.d = r.d ∧ s.cpu.e = r.e ∧ s.cpu.h = r.h ∧ s.cpu.l = r.l ∧
      s.cpu.sp = r.sp ∧ s.cpu.pc = r.pc ∧ s.cpu.f &&& 0x0F = 0 ∧ s.cpu.f.extractLsb' 4 4 = r.flags) ∧
    (s.cpu.ime = false ∧ s.cpu.imePending = false ∧ s.cpu.halted = false ∧ s.cpu.stopped = false) ∧
    (s.bus.anomaly = [] ∧ s.bus.ie = 0 ∧ s.bus.ifReg = 0 ∧ ∀ k, Memory.read s.bus.io k = 0) ∧
    (s.bus.wram = m.wram ∧ s.bus.hram = m.hram ∧ s.bus.ppu.vram = m.vram ∧ s.bus.ppu.oam = m.oam ∧ s.bus.cart = cart) ∧
    (s.bus.timer.div16 = 0 ∧ s.bus.timer.tima = 0 ∧ s.bus.timer.tma = 0 ∧ s.bus.timer.tac = 0 ∧ s.bus.timer.req = false) ∧
    (s.bus.ppu.lcdc = 0 ∧ s.bus.ppu.stat = 0 ∧ s.bus.ppu.scy = 0 ∧ s.bus.ppu.scx = 0 ∧ s.bus.ppu.ly = 0 ∧
      s.bus.ppu.lyc = 0 ∧ s.bus.ppu.dma = 0 ∧ s.bus.ppu.bgp = 0 ∧ s.bus.ppu.obp0 = 0 ∧ s.bus.ppu.obp1 = 0 ∧
      s.bus.ppu.wy = 0 ∧ s.bus.ppu.wx = 0) ∧
    (∀ a, 0xFF40 ≤ a → a ≤ 0xFF4B → (s.bus.ppu.read a).extractLsb' 0 7 = 0 ∧ (a ≠ 0xFF41 → s.bus.ppu.read a = 0)) ∧
    (s.bus.ppu.lineCycle = 0 ∧ s.bus.ppu.frameDone = false ∧ s.bus.ppu.vblankReq = false ∧ s.bus.ppu.statReq = false ∧
      s.bus.ppu.dmaActive = false ∧ s.bus.ppu.dmaSrc = 0 ∧ s.bus.ppu.dmaTick = 0) ∧
    (∀ y x, x < 160 → s.bus.ppu.frameAt y x = 0 ∧ s.bus.ppu.sourceAt y x = .none) ∧
    (s.bus.joypad.buttons = 0xFF ∧ s.bus.joypad.select = 3 ∧ s.bus.joypad.req = false)

/-- R422, R473: construction makes its checks in order and fails with the kind of the first that fails; one that succeeds holds
the image's banks, the variant, the RAM size and RAM_INIT's bytes, with the selectors at their reset values (R424, R425, R426,
R436). -/
def Obligations.Construction : Prop :=
  ∀ (img : Image) (r : Config.ResetRegs) (m : RamInit),
    let byte (k : Nat) : Byte := Memory.read img.bytes k
    let logoOk := ∀ k, k < 48 → byte (0x104 + k) = logo.getD k 0
    (img.len < 0x150 → construct img r m = .error .size) ∧
    (0x150 ≤ img.len → ¬ logoOk → construct img r m = .error .format) ∧
    (0x150 ≤ img.len → logoOk → variantOf (byte 0x147) = none → construct img r m = .error .unsupported) ∧
    (∀ v, 0x150 ≤ img.len → logoOk → variantOf (byte 0x147) = some v →
      (8 < (byte 0x148).toNat → construct img r m = .error .format) ∧
      ((byte 0x148).toNat ≤ 8 →
        let banks := 2 * 2 ^ (byte 0x148).toNat
        (img.len < 0x4000 * banks → construct img r m = .error .size) ∧
        (0x4000 * banks ≤ img.len →
          (ramOf (byte 0x147) (byte 0x149) = none → construct img r m = .error .format) ∧
          (∀ size, ramOf (byte 0x147) (byte 0x149) = some size → Memory.wf 0x8000 m.cartRam →
            ∃ s, construct img r m = .ok s ∧
              (s.bus.cart.variant = v ∧ s.bus.cart.romBanks = banks ∧ s.bus.cart.ramSize = size) ∧
              (∀ k, k < 0x4000 * banks → Memory.read s.bus.cart.rom k = byte k) ∧
              (∀ k, k < size → Memory.read s.bus.cart.ram k =
                (if v = .schemeB then Memory.read m.cartRam k &&& 0x0F else Memory.read m.cartRam k)) ∧
              (s.bus.cart.ramEnable = false ∧ s.bus.cart.romBank = 1 ∧ s.bus.cart.ramBank = 0 ∧ s.bus.cart.mode = false ∧
                s.bus.cart.sel = 0 ∧ s.bus.cart.rtc = Vector.replicate 5 0)))))

/-! ## The timer -/

/-- R347, R348, R349: one tick increments the divider and, when the selected bit falls with the counter enabled, the counter,
which at 0xFF is reloaded with a request; nothing else changes. The bit falls in exactly the ticks that take the divider to a
multiple of the period, 1024, 16, 64 or 256 (R348). -/
def Obligations.TimerTick : Prop :=
  (∀ t : Timer,
    let sel := [9, 3, 5, 7].getD (t.tac.toNat % 4) 0
    let falls := 4 ≤ t.tac.toNat ∧ t.div16.getLsbD sel = true ∧ (t.div16 + 1).getLsbD sel = false
    (¬ falls → t.tick = { t with div16 := t.div16 + 1 }) ∧
    (falls → t.tima ≠ 0xFF → t.tick = { t with div16 := t.div16 + 1, tima := t.tima + 1 }) ∧
    (falls → t.tima = 0xFF → t.tick = { t with div16 := t.div16 + 1, tima := t.tma, req := true })) ∧
  ∀ t : Timer,
    let period := [1024, 16, 64, 256].getD (t.tac.toNat % 4) 0
    t.tima ≠ 0xFF →
      t.tick.tima = if 4 ≤ t.tac.toNat ∧ (t.div16.toNat + 1) % period = 0 then t.tima + 1 else t.tima

/-- The Timer's registers (R341, R344, R345, R346): a write to TIMA, TMA or TAC stores the byte, of TAC bits 2:0, and nothing
else; DIV reads the upper byte of the divider, the others what they hold (of a read of TAC bits 2:0 only are stated, log 9). R342,
R350, R353 (b), (c): n cycles add n to the divider; a disabled counter holds. -/
def Obligations.DividerCounts : Prop :=
  (∀ (t : Timer) (v : Byte),
    t.write 0xFF05 v = { t with tima := v } ∧ t.write 0xFF06 v = { t with tma := v } ∧
    t.write 0xFF07 v = { t with tac := v.extractLsb' 0 3 } ∧
    t.read 0xFF04 = t.div16.extractLsb' 8 8 ∧ t.read 0xFF05 = t.tima ∧ t.read 0xFF06 = t.tma ∧
    (t.read 0xFF07).extractLsb' 0 3 = t.tac) ∧
  ∀ (t : Timer) (n : Nat),
    (t.run n).div16 = t.div16 + BitVec.ofNat 16 n ∧
    ((t.write 0xFF04 0).run n).read 0xFF04 = BitVec.ofNat 8 (n / 256) ∧
    (t.tac.getLsbD 2 = false → (t.run n).tima = t.tima ∧ (t.run n).req = t.req)

/-- R343, R353 (d): a write to DIV zeroes the whole divider, and writes to it every m cycles, m below the selected period, keep
the counter constant for ever. -/
def Obligations.DividerWritesHoldCounter : Prop :=
  ∀ (t : Timer) (v : Byte) (m n : Nat), m < [1024, 16, 64, 256].getD (t.tac.toNat % 4) 0 →
    t.write 0xFF04 v = { t with div16 := 0 } ∧
    ((fun u : Timer => (u.write 0xFF04 v).run m)^[n] t).tima = t.tima ∧
    ((fun u : Timer => (u.write 0xFF04 v).run m)^[n] t).req = t.req

/-! ## The display controller -/

/-- R370, R372: n ticks-of-4 of an enabled display move its position 4 n cycles on in a frame of 70,224. -/
def Obligations.PositionAdvances : Prop :=
  ∀ (p : Ppu) (n : Nat), p.enabled = true → p.PositionOk →
    let q := Ppu.advance^[n] p
    q.enabled = true ∧ q.PositionOk ∧
    q.ly.toNat * 456 + q.lineCycle = (p.ly.toNat * 456 + p.lineCycle + 4 * n) % 70224

/-- R372 to R375: what a tick-of-4 of an enabled display requests: vblank and the frame's completion exactly where it reaches
cycle 4 of line 144; STAT for an enabled entry into mode 0, 1 or 2 and for an enabled coincidence; the coincidence flag changes
at cycle 4 of a line only, and the enables never. -/
def Obligations.DisplayRequests : Prop :=
  ∀ p : Ppu, p.enabled = true → p.PositionOk →
    let q := p.advance
    q.vblankReq = (p.vblankReq || decide (q.ly.toNat = 144 ∧ q.lineCycle = 4)) ∧
    q.frameDone = (p.frameDone || decide (q.ly.toNat = 144 ∧ q.lineCycle = 4)) ∧
    q.statReq = (p.statReq || (p.stat.getLsbD 3 && decide (q.ly.toNat ≤ 143 ∧ q.lineCycle = 252))
      || (p.stat.getLsbD 4 && decide (q.ly.toNat = 144 ∧ q.lineCycle = 0))
      || (p.stat.getLsbD 5 && decide (q.ly.toNat ≤ 143 ∧ q.lineCycle = 0))
      || (p.stat.getLsbD 6 && decide (q.lineCycle = 4 ∧ q.ly = q.lyc))) ∧
    q.stat.getLsbD 2 = (if q.lineCycle = 4 then decide (q.ly = q.lyc) else p.stat.getLsbD 2) ∧
    q.stat.extractLsb' 3 5 = p.stat.extractLsb' 3 5

/-- R377, R378: turning the display off sets mode 0 and keeps the counters, and it then stands still; turning it on restarts it at
line 0 in mode 2; a write to LCDC that leaves bit 7 as it was stores the byte only. No request is raised. R363 to R369: a write
to STAT stores bits 6:3 only, one to LY nothing, one to any other register the byte, which reads back; only DMA's starts
something (R391). -/
def Obligations.DisplayRegisterWrites : Prop :=
  (∀ (p : Ppu) (v : Byte),
    (p.enabled = true → v.getLsbD 7 = false →
      p.write 0xFF40 v = { p with lcdc := v, stat := p.stat &&& 0xFC }) ∧
    (p.enabled = false → v.getLsbD 7 = true →
      p.write 0xFF40 v = { p with lcdc := v, ly := 0, lineCycle := 0, stat := (p.stat &&& 0xFC) ||| 2 }) ∧
    (p.enabled = v.getLsbD 7 → p.write 0xFF40 v = { p with lcdc := v }) ∧
    (p.enabled = false → p.advance = p)) ∧
  ∀ (p : Ppu) (v : Byte),
    (∃ w : Byte, p.write 0xFF41 v = { p with stat := w } ∧
      ∀ k, k < 8 → w.getLsbD k = if 3 ≤ k ∧ k ≤ 6 then v.getLsbD k else p.stat.getLsbD k) ∧
    p.write 0xFF44 v = p ∧
    p.write 0xFF46 v = { p with dma := v, dmaSrc := v, dmaTick := 0, dmaActive := true } ∧
    (p.write 0xFF42 v = { p with scy := v } ∧ p.write 0xFF43 v = { p with scx := v } ∧
      p.write 0xFF45 v = { p with lyc := v } ∧ p.write 0xFF47 v = { p with bgp := v } ∧
      p.write 0xFF48 v = { p with obp0 := v } ∧ p.write 0xFF49 v = { p with obp1 := v } ∧
      p.write 0xFF4A v = { p with wy := v } ∧ p.write 0xFF4B v = { p with wx := v }) ∧
    (∀ a, 0xFF40 ≤ a → a ≤ 0xFF4B → a ≠ 0xFF41 → a ≠ 0xFF44 → (p.write a v).read a = v)

/-- R381, R372: the frame and the source buffer change in one tick only, the one that brings a visible line to cycle 252, and
there in that line only, to the 160 pixels of the line as the registers and memories stand. -/
def Obligations.LineRendered : Prop :=
  ∀ p : Ppu, p.enabled = true → p.PositionOk →
    (p.lineCycle = 248 → p.ly.toNat ≤ 143 → ∀ y x, x < 160 →
      p.advance.frameAt y x = (if y = p.ly.toNat then (p.pixel y x).shade else p.frameAt y x) ∧
      p.advance.sourceAt y x = (if y = p.ly.toNat then (p.pixel y x).layer else p.sourceAt y x)) ∧
    (¬ (p.lineCycle = 248 ∧ p.ly.toNat ≤ 143) → p.advance.frame = p.frame ∧ p.advance.source = p.source)

/-- R387: the sprites of a line are those on it that fewer than ten of a lower number precede, in table order: ten at most. -/
def Obligations.SpriteSelection : Prop :=
  ∀ (p : Ppu) (y : Nat),
    let onLine (i : Nat) : Bool :=
      (Memory.read p.oam (4 * i)).toNat ≤ y + 16 &&
        y + 16 < (Memory.read p.oam (4 * i)).toNat + (if p.lcdc.getLsbD 2 then 16 else 8)
    (p.selectSprites y).length ≤ 10 ∧ (p.selectSprites y).Pairwise (· < ·) ∧
    ∀ i, i ∈ p.selectSprites y ↔ i < 40 ∧ onLine i = true ∧ ((List.range i).countP onLine) < 10

/-- R388: with sprites enabled a pixel is that of the first selected sprite that shows there (it reaches the column, is opaque,
and is not behind an opaque background), and the background's or window's if none does: the lower table index wins. -/
def Obligations.SpritePriority : Prop :=
  ∀ (p : Ppu) (y x : Nat), p.lcdc.getLsbD 1 = true →
    let under := p.bgWindowPixel x y
    p.pixel y x =
      match (p.selectSprites y).find? (p.spriteShows y x under.bgIndex) with
      | none => under
      | some i => { under with shade := p.spriteShade y x i, layer := .sprite }

/-- R382, R383: a pixel of background or window: blank where LCDC bit 0 is clear, the window's where it covers, else the scrolled
background's. -/
def Obligations.BackgroundPixel : Prop :=
  ∀ (p : Ppu) (x y : Nat),
    let wxs := p.wx.toNat - 7
    let covers := p.lcdc.getLsbD 5 = true ∧ p.wy.toNat ≤ y ∧ wxs ≤ x
    let index (map px py : Nat) : BitVec 2 :=
      let t := Memory.read p.vram (map + 32 * (py / 8) + px / 8)
      let tile := if p.lcdc.getLsbD 4 then 16 * t.toNat else if t.toNat < 128 then 0x1000 + 16 * t.toNat else 16 * t.toNat
      let lo := Memory.read p.vram (tile + 2 * (py % 8))
      let hi := Memory.read p.vram (tile + 2 * (py % 8) + 1)
      BitVec.ofBool (hi.getLsbD (7 - px % 8)) ++ BitVec.ofBool (lo.getLsbD (7 - px % 8))
    let shade (i : BitVec 2) : BitVec 2 := p.bgp.extractLsb' (2 * i.toNat) 2
    (p.lcdc.getLsbD 0 = false → p.bgWindowPixel x y = ⟨0, 0, .none⟩) ∧
    (p.lcdc.getLsbD 0 = true → covers →
      let i := index (if p.lcdc.getLsbD 6 then 0x1C00 else 0x1800) (x - wxs) (y - p.wy.toNat)
      p.bgWindowPixel x y = ⟨i, shade i, .window⟩) ∧
    (p.lcdc.getLsbD 0 = true → ¬ covers →
      let i := index (if p.lcdc.getLsbD 3 then 0x1C00 else 0x1800) ((x + p.scx.toNat) % 256) ((y + p.scy.toNat) % 256)
      p.bgWindowPixel x y = ⟨i, shade i, .bg⟩)

/-- R391, R392, R393: from a write to the DMA register, a transfer running or not, the engine is active for 161 ticks-of-4, and
then object memory holds the 160 bytes of the source page, read past every gate; for every page but 0xFF, whose registers may
change while the transfer runs. -/
def Obligations.DmaTransfer : Prop :=
  ∀ (b : Bus) (v : Byte), v.toNat ≤ 0xFE →
    let run (n : Nat) : Bus := Bus.tick4^[n] (b.memWrite 0xFF46 v)
    (∀ n, n < 161 → (run n).ppu.dmaActive = true) ∧ (run 161).ppu.dmaActive = false ∧
    ∀ k, k < 160 → Memory.read (run 161).ppu.oam k = b.get (v.toNat * 256 + k)

/-! ## The cartridge and the joypad -/

/-- R427, R428, R429, R431: the Scheme-A variant, its four windows and its RAM. -/
def Obligations.SchemeACartridge : Prop :=
  ∀ (c : Cart) (a : Nat) (v : Byte), c.variant = .schemeA →
    let cell := (0x2000 * (c.ramBank.toNat % max 1 (c.ramSize / 0x2000)) + (a - 0xA000)) % c.ramSize
    (a < 0x4000 → c.read a = Memory.read c.rom a) ∧
    (0x4000 ≤ a → a < 0x8000 →
      c.read a = Memory.read c.rom (0x4000 * (c.romBank.toNat % c.romBanks) + (a - 0x4000))) ∧
    (a < 0x2000 → c.write a v = { c with ramEnable := decide (v.toNat % 16 = 10) }) ∧
    (0x2000 ≤ a → a < 0x4000 → ∃ n : BitVec 7, c.write a v = { c with romBank := n } ∧
      n.toNat = c.romBank.toNat / 32 * 32 + (if v.toNat % 32 = 0 then 1 else v.toNat % 32)) ∧
    (0x4000 ≤ a → a < 0x6000 → c.mode = false → ∃ n : BitVec 7, c.write a v = { c with romBank := n } ∧
      n.toNat = v.toNat % 4 * 32 + c.romBank.toNat % 32) ∧
    (0x4000 ≤ a → a < 0x6000 → c.mode = true → c.write a v = { c with ramBank := v.extractLsb' 0 2 }) ∧
    (0x6000 ≤ a → a < 0x8000 → c.write a v = { c with mode := v.getLsbD 0 }) ∧
    (0xA000 ≤ a → a < 0xC000 → c.ramEnable = true → c.ramSize ≠ 0 →
      c.read a = Memory.read c.ram cell ∧ c.write a v = { c with ram := Memory.write c.ram cell v }) ∧
    (0xA000 ≤ a → a < 0xC000 → (c.ramEnable = false ∨ c.ramSize = 0) → c.read a = 0xFF ∧ c.write a v = c)

/-- R430: the ROM-only variant. R427, R428, R429, R432: the Scheme-B variant; of a byte read from its RAM the low nibble only is
stated. -/
def Obligations.RomOnlyAndSchemeB : Prop :=
  (∀ (c : Cart) (a : Nat) (v : Byte), c.variant = .romOnly →
    (a < 0x8000 → c.read a = Memory.read c.rom a ∧ c.write a v = c) ∧
    (0xA000 ≤ a → a < 0xC000 → c.ramSize = 0 → c.read a = 0xFF ∧ c.write a v = c) ∧
    (0xA000 ≤ a → a < 0xC000 → c.ramSize ≠ 0 →
      c.read a = Memory.read c.ram ((a - 0xA000) % c.ramSize) ∧
      c.write a v = { c with ram := Memory.write c.ram ((a - 0xA000) % c.ramSize) v })) ∧
  ∀ (c : Cart) (a : Nat) (v : Byte), c.variant = .schemeB →
    (a < 0x4000 → c.read a = Memory.read c.rom a) ∧
    (0x4000 ≤ a → a < 0x8000 →
      c.read a = Memory.read c.rom (0x4000 * (c.romBank.toNat % c.romBanks) + (a - 0x4000))) ∧
    (a < 0x4000 → a / 256 % 2 = 0 → c.write a v = { c with ramEnable := decide (v.toNat % 16 = 10) }) ∧
    (a < 0x4000 → a / 256 % 2 = 1 → ∃ n : BitVec 7, c.write a v = { c with romBank := n } ∧
      n.toNat = (if v.toNat % 16 = 0 then 1 else v.toNat % 16)) ∧
    (0x4000 ≤ a → a < 0x8000 → c.write a v = c) ∧
    (0xA000 ≤ a → a < 0xC000 → c.ramEnable = true →
      c.read a &&& 0x0F = Memory.read c.ram ((a - 0xA000) % 512) &&& 0x0F ∧
      c.write a v = { c with ram := Memory.write c.ram ((a - 0xA000) % 512) (v &&& 0x0F) }) ∧
    (0xA000 ≤ a → a < 0xC000 → c.ramEnable = false → c.read a = 0xFF ∧ c.write a v = c)

/-- R427, R428, R429, R433, R434: the Scheme-C variant, its RAM and its five shadow clock registers; the latch does nothing. -/
def Obligations.SchemeCCartridge : Prop :=
  ∀ (c : Cart) (a : Nat) (v : Byte), c.variant = .schemeC →
    let cell := (0x2000 * (c.sel.toNat % max 1 (c.ramSize / 0x2000)) + (a - 0xA000)) % c.ramSize
    let clock := 8 ≤ c.sel.toNat ∧ c.sel.toNat ≤ 12
    (a < 0x4000 → c.read a = Memory.read c.rom a) ∧
    (0x4000 ≤ a → a < 0x8000 →
      c.read a = Memory.read c.rom (0x4000 * (c.romBank.toNat % c.romBanks) + (a - 0x4000))) ∧
    (a < 0x2000 → c.write a v = { c with ramEnable := decide (v.toNat % 16 = 10) }) ∧
    (0x2000 ≤ a → a < 0x4000 → ∃ n : BitVec 7, c.write a v = { c with romBank := n } ∧
      n.toNat = (if v.toNat % 128 = 0 then 1 else v.toNat % 128)) ∧
    (0x4000 ≤ a → a < 0x6000 → c.write a v = { c with sel := v.extractLsb' 0 4 }) ∧
    (0x6000 ≤ a → a < 0x8000 → c.write a v = c) ∧
    (0xA000 ≤ a → a < 0xC000 → c.ramEnable = true → c.sel.toNat ≤ 3 → c.ramSize ≠ 0 →
      c.read a = Memory.read c.ram cell ∧ c.write a v = { c with ram := Memory.write c.ram cell v }) ∧
    (0xA000 ≤ a → a < 0xC000 → c.ramEnable = true → clock →
      ∃ w : Vector Byte 5, c.write a v = { c with rtc := w } ∧
        (∀ k, k < 5 → w.toList.getD k 0 = if k = c.sel.toNat - 8 then v else c.rtc.toList.getD k 0) ∧
        c.read a = c.rtc.toList.getD (c.sel.toNat - 8) 0) ∧
    (0xA000 ≤ a → a < 0xC000 →
      (c.ramEnable = false ∨ ¬ clock ∧ ¬ (c.sel.toNat ≤ 3 ∧ c.ramSize ≠ 0)) → c.read a = 0xFF ∧ c.write a v = c)

/-- R461, R462, R463: the joypad register's read, its write, and the refresh with its request. -/
def Obligations.JoypadRegister : Prop :=
  ∀ (j : Joypad) (v pressed : Byte),
    (∀ k, k < 4 → j.read.getLsbD k =
      ((j.select.getLsbD 0 || j.buttons.getLsbD k) && (j.select.getLsbD 1 || j.buttons.getLsbD (k + 4)))) ∧
    j.read.extractLsb' 4 2 = j.select ∧
    j.write v = { j with select := v.extractLsb' 4 2 } ∧
    (j.refresh pressed).buttons = ~~~pressed ∧ (j.refresh pressed).select = j.select ∧
    ((j.refresh pressed).req = true ↔ j.req = true ∨
      ∃ k, k < 8 ∧ j.select.getLsbD (k / 4) = false ∧ j.buttons.getLsbD k = pressed.getLsbD k)

/-! ## The routing of the BUS -/

/-- Which owner answers an address (R61 to R67, R69, R73, R74): its read, its ungated read, and its write, with the mirror into
`io` of a write to an owned slot, and nothing else changed. The hole 0xFEA0..0xFEFF is in `CpuAccess` and `WriteFrame`; the value
it reads as is stated nowhere (log 7). That IF (an unowned slot here) and IE hold their bits 7:5 too is the model's choice (log 9,
after D15). -/
def Obligations.BusRouting : Prop :=
  ∀ (b : Bus) (a : Nat) (v : Byte),
    let io := Memory.write b.io (a - 0xFF00) v
    (a < 0x8000 ∨ 0xA000 ≤ a ∧ a < 0xC000 →
      b.read a = b.cart.read a ∧ b.get a = b.cart.read a ∧ b.write a v = { b with cart := b.cart.write a v }) ∧
    (0x8000 ≤ a ∧ a < 0xA000 ∨ 0xFE00 ≤ a ∧ a < 0xFEA0 →
      b.read a = b.ppu.read a ∧ b.get a = b.ppu.get a ∧ b.write a v = { b with ppu := b.ppu.write a v }) ∧
    (0xC000 ≤ a ∧ a < 0xE000 →
      b.read a = Memory.read b.wram (a - 0xC000) ∧ b.get a = Memory.read b.wram (a - 0xC000) ∧
      b.write a v = { b with wram := Memory.write b.wram (a - 0xC000) v }) ∧
    (0xE000 ≤ a ∧ a < 0xFE00 →
      b.read a = Memory.read b.wram (a - 0xE000) ∧ b.get a = Memory.read b.wram (a - 0xE000) ∧
      b.write a v = { b with wram := Memory.write b.wram (a - 0xE000) v }) ∧
    (a = 0xFF00 →
      b.read a = b.joypad.read ∧ b.get a = b.joypad.read ∧ b.write a v = { b with joypad := b.joypad.write v, io := io }) ∧
    (0xFF04 ≤ a ∧ a ≤ 0xFF07 →
      b.read a = b.timer.read a ∧ b.get a = b.timer.read a ∧
      b.write a v = { b with timer := b.timer.write a v, io := io }) ∧
    (0xFF40 ≤ a ∧ a ≤ 0xFF4B →
      b.read a = b.ppu.read a ∧ b.get a = b.ppu.get a ∧ b.write a v = { b with ppu := b.ppu.write a v, io := io }) ∧
    (0xFF01 ≤ a ∧ a ≤ 0xFF03 ∨ 0xFF08 ≤ a ∧ a ≤ 0xFF3F ∨ 0xFF4C ≤ a ∧ a ≤ 0xFF7F →
      b.read a = Memory.read b.io (a - 0xFF00) ∧ b.get a = Memory.read b.io (a - 0xFF00) ∧ b.write a v = { b with io := io }) ∧
    (0xFF80 ≤ a ∧ a ≤ 0xFFFE →
      b.read a = Memory.read b.hram (a - 0xFF80) ∧ b.get a = Memory.read b.hram (a - 0xFF80) ∧
      b.write a v = { b with hram := Memory.write b.hram (a - 0xFF80) v }) ∧
    (a = 0xFFFF → b.read a = b.ie ∧ b.get a = b.ie ∧ b.write a v = { b with ie := v })
end

