-- ==== Sys2Proof/Laws/Memory.lean ====
section
/-! SUPPORT. The laws of sparse arrays: read after write, and that every operation keeps the canonical form. -/

namespace Sys2Proof.Machine

namespace Sparse

variable {α : Type} (d : α)

theorem get_insert_same (m : List (Nat × α)) (k : Nat) (v : α) (h : ∀ x ∈ m, x.1 ≠ k) : get d (insert k v m) k = v := by
  induction m with
  | nil => simp [insert, get]
  | cons x m ih =>
    obtain ⟨i, w⟩ := x
    have hi : i ≠ k := h (i, w) (by simp)
    unfold insert
    split
    · simp [get]
    · simp [get, hi, ih fun y hy => h y (by simp [hy])]

theorem get_insert_ne (m : List (Nat × α)) (k j : Nat) (v : α) (h : j ≠ k) : get d (insert k v m) j = get d m j := by
  induction m with
  | nil => simp [insert, get, h.symm]
  | cons x m ih =>
    obtain ⟨i, w⟩ := x
    unfold insert
    split
    · simp [get, h.symm]
    · simp [get, ih]

theorem get_erase_same (m : List (Nat × α)) (k : Nat) : get d (erase m k) k = d := by
  induction m with
  | nil => rfl
  | cons x m ih =>
    obtain ⟨i, w⟩ := x
    by_cases hi : i = k
    · simpa [erase, hi] using ih
    · simpa [erase, hi, get] using ih

theorem get_erase_ne (m : List (Nat × α)) (k j : Nat) (h : j ≠ k) : get d (erase m k) j = get d m j := by
  induction m with
  | nil => rfl
  | cons x m ih =>
    obtain ⟨i, w⟩ := x
    unfold erase at ih ⊢
    rw [List.filter_cons]
    split
    · simp only [get, ih]
    · rename_i hi
      have hk : i = k := by simpa using hi
      have hj : ¬ i = j := fun e => h (e.symm.trans hk)
      simp only [get, if_neg hj, ih]

theorem not_mem_erase (m : List (Nat × α)) (k : Nat) : ∀ x ∈ erase m k, x.1 ≠ k := by
  intro x hx
  simpa using (List.mem_filter.mp hx).2

variable [DecidableEq α]

/-- A read of the index that was stored to. -/
@[simp] theorem get_set_same (m : List (Nat × α)) (k : Nat) (v : α) : get d (set d m k v) k = v := by
  unfold set
  split
  · rename_i h; rw [get_erase_same, h]
  · exact get_insert_same d _ k v (not_mem_erase m k)

/-- A read of any other index. -/
theorem get_set_ne (m : List (Nat × α)) (k j : Nat) (v : α) (h : j ≠ k) : get d (set d m k v) j = get d m j := by
  unfold set
  split
  · exact get_erase_ne d m k j h
  · rw [get_insert_ne d _ k j v h, get_erase_ne d m k j h]

theorem get_set (m : List (Nat × α)) (k j : Nat) (v : α) : get d (set d m k v) j = if j = k then v else get d m j := by
  split
  · rename_i h; subst h; exact get_set_same d m j v
  · rename_i h; exact get_set_ne d m k j v h

omit [DecidableEq α] in
theorem mem_insert (m : List (Nat × α)) (k : Nat) (v : α) (x : Nat × α) : x ∈ insert k v m ↔ x = (k, v) ∨ x ∈ m := by
  induction m with
  | nil => simp [insert]
  | cons y m ih =>
    obtain ⟨i, w⟩ := y
    unfold insert
    split
    · simp
    · simp [ih]; tauto

omit [DecidableEq α] in
theorem pairwise_insert (m : List (Nat × α)) (k : Nat) (v : α) (hk : ∀ x ∈ m, x.1 ≠ k)
    (h : m.Pairwise fun x y => x.1 < y.1) : (insert k v m).Pairwise fun x y => x.1 < y.1 := by
  induction m with
  | nil => simp [insert]
  | cons y m ih =>
    obtain ⟨i, w⟩ := y
    rw [List.pairwise_cons] at h
    have hi : i ≠ k := hk (i, w) (by simp)
    unfold insert
    split
    · rename_i hlt
      refine List.pairwise_cons.mpr ⟨?_, List.pairwise_cons.mpr h⟩
      intro x hx
      rcases List.mem_cons.mp hx with rfl | hx
      · exact hlt
      · exact lt_trans hlt (h.1 x hx)
    · rename_i hlt
      refine List.pairwise_cons.mpr ⟨?_, ih (fun x hx => hk x (by simp [hx])) h.2⟩
      intro x hx
      rcases (mem_insert m k v x).mp hx with rfl | hx
      · show i < k; omega
      · exact h.1 x hx

omit [DecidableEq α] in
theorem canonical_erase {n : Nat} {m : List (Nat × α)} (k : Nat) (h : Canonical d n m) : Canonical d n (erase m k) :=
  ⟨h.1.filter _, fun x hx => h.2 x (List.mem_of_mem_filter hx)⟩

/-- A store inside the array keeps the canonical form. -/
theorem canonical_set {n : Nat} {m : List (Nat × α)} (k : Nat) (v : α) (hk : k < n) (h : Canonical d n m) :
    Canonical d n (set d m k v) := by
  have he := canonical_erase d k h
  unfold set
  split
  · exact he
  · rename_i hv
    refine ⟨pairwise_insert _ k v (not_mem_erase m k) he.1, fun x hx => ?_⟩
    rcases (mem_insert _ k v x).mp hx with rfl | hx
    · exact ⟨hk, hv⟩
    · exact he.2 x hx

/-- What holds of every cell of an array and of the stored one holds of every cell after the store. -/
theorem forall_mem_set {m : List (Nat × α)} {P : Nat × α → Prop} (k : Nat) (v : α) (hv : P (k, v)) (h : ∀ x ∈ m, P x) :
    ∀ x ∈ set d m k v, P x := by
  intro x hx
  unfold set at hx
  split at hx
  · exact h x (List.mem_of_mem_filter hx)
  · rcases (mem_insert _ k v x).mp hx with rfl | hx
    · exact hv
    · exact h x (List.mem_of_mem_filter hx)

omit [DecidableEq α] in
theorem canonical_nil (n : Nat) : Canonical d n ([] : List (Nat × α)) := ⟨List.Pairwise.nil, by simp⟩

omit [DecidableEq α] in
/-- Canonical arrays that read the same everywhere are the same list. -/
theorem eq_of_get_eq {n : Nat} {m m' : List (Nat × α)} (h : Canonical d n m) (h' : Canonical d n m')
    (e : ∀ k, get d m k = get d m' k) : m = m' := by
  have get_lt : ∀ (l : List (Nat × α)) (k : Nat), (∀ x ∈ l, k < x.1) → get d l k = d := by
    intro l k hl
    induction l with
    | nil => rfl
    | cons y l ih =>
      obtain ⟨i, w⟩ := y
      have : ¬ i = k := by have := hl (i, w) (by simp); simp only at this; omega
      simp [get, this, ih fun x hx => hl x (by simp [hx])]
  induction m generalizing m' with
  | nil =>
    cases m' with
    | nil => rfl
    | cons y l =>
      obtain ⟨i, w⟩ := y
      have := e i
      simp only [get] at this
      exact absurd this.symm (h'.2 (i, w) (by simp)).2
  | cons x m ih =>
    obtain ⟨i, w⟩ := x
    cases m' with
    | nil =>
      have := e i
      simp only [get] at this
      exact absurd this (h.2 (i, w) (by simp)).2
    | cons y l =>
      obtain ⟨j, u⟩ := y
      obtain ⟨hp, hq⟩ := h
      obtain ⟨hp', hq'⟩ := h'
      rw [List.pairwise_cons] at hp hp'
      have hij : i = j := by
        rcases lt_trichotomy i j with hlt | heq | hgt
        · have := e i
          rw [get_lt ((j, u) :: l) i (by
            intro z hz
            rcases List.mem_cons.mp hz with rfl | hz
            · exact hlt
            · exact lt_trans hlt (hp'.1 z hz))] at this
          simp only [get] at this
          exact absurd this (hq (i, w) (by simp)).2
        · exact heq
        · have := e j
          rw [get_lt ((i, w) :: m) j (by
            intro z hz
            rcases List.mem_cons.mp hz with rfl | hz
            · exact hgt
            · exact lt_trans hgt (hp.1 z hz))] at this
          simp only [get] at this
          exact absurd this.symm (hq' (j, u) (by simp)).2
      subst hij
      have hwu : w = u := by simpa [get] using e i
      subst hwu
      refine congrArg _ (ih ⟨hp.2, fun x hx => hq x (by simp [hx])⟩ ⟨hp'.2, fun x hx => hq' x (by simp [hx])⟩ fun k => ?_)
      by_cases hk : i = k
      · subst hk
        rw [get_lt m i hp.1, get_lt l i hp'.1]
      · have := e k
        simpa [get, hk] using this

end Sparse

namespace Memory

@[simp] theorem read_write_same (m : Memory) (k : Nat) (v : Byte) : read (write m k v) k = v := Sparse.get_set_same 0 m k v

theorem read_write_ne (m : Memory) (k j : Nat) (v : Byte) (h : j ≠ k) : read (write m k v) j = read m j :=
  Sparse.get_set_ne 0 m k j v h

theorem read_write (m : Memory) (k j : Nat) (v : Byte) : read (write m k v) j = if j = k then v else read m j :=
  Sparse.get_set 0 m k j v

@[simp] theorem read_nil (k : Nat) : read [] k = 0 := rfl

/-- A store inside the array keeps the canonical form. -/
theorem wf_write {n : Nat} {m : Memory} (k : Nat) (v : Byte) (hk : k < n) (h : wf n m) : wf n (write m k v) :=
  Sparse.canonical_set 0 k v hk h

theorem wf_nil (n : Nat) : wf n [] := Sparse.canonical_nil 0 n

/-- What is left of an array below a size is canonical. -/
theorem wf_restrict {n k : Nat} {m : Memory} (h : wf n m) : wf k (restrict k m) :=
  ⟨h.1.filter _, fun x hx => ⟨by simpa using (List.mem_filter.mp hx).2, (h.2 x (List.mem_of_mem_filter hx)).2⟩⟩

theorem read_restrict (n : Nat) (m : Memory) (k : Nat) (hk : k < n) : read (restrict n m) k = read m k := by
  unfold read restrict
  induction m with
  | nil => rfl
  | cons x m ih =>
    obtain ⟨i, w⟩ := x
    by_cases hi : i = k
    · subst hi; simp [hk, Sparse.get]
    · by_cases hn : i < n
      · simp only [List.filter_cons, hn, decide_true, if_true, Sparse.get, if_neg hi]
        exact ih
      · simp only [List.filter_cons, hn, decide_false, Sparse.get, if_neg hi]
        exact ih

end Memory

end Sys2Proof.Machine
end

