-- ==== Sys2Proof/Laws/Bus.lean ====
section
/-! SUPPORT. What the BUS operations do: reads change nothing but the anomaly set, a write is one store of its owner. -/

namespace Sys2Proof.Machine.Bus

variable (b : Bus)

@[simp] theorem record_cart (x : Anomaly) : (b.record x).cart = b.cart := rfl
@[simp] theorem record_ppu (x : Anomaly) : (b.record x).ppu = b.ppu := rfl
@[simp] theorem record_timer (x : Anomaly) : (b.record x).timer = b.timer := rfl
@[simp] theorem record_joypad (x : Anomaly) : (b.record x).joypad = b.joypad := rfl
@[simp] theorem record_wram (x : Anomaly) : (b.record x).wram = b.wram := rfl
@[simp] theorem record_hram (x : Anomaly) : (b.record x).hram = b.hram := rfl
@[simp] theorem record_io (x : Anomaly) : (b.record x).io = b.io := rfl
@[simp] theorem record_ie (x : Anomaly) : (b.record x).ie = b.ie := rfl
@[simp] theorem record_anomaly (x : Anomaly) : (b.record x).anomaly = recordAnomaly b.anomaly x := rfl

@[simp] theorem record_read (x : Anomaly) (a : Nat) : (b.record x).read a = b.read a := rfl
@[simp] theorem record_get (x : Anomaly) (a : Nat) : (b.record x).get a = b.get a := rfl
@[simp] theorem record_memRead (x : Anomaly) (a : Word) : (b.record x).memRead a = b.memRead a := rfl
@[simp] theorem record_blocks (x : Anomaly) (a : Nat) : (b.record x).blocks a = b.blocks a := rfl
@[simp] theorem record_ifReg (x : Anomaly) : (b.record x).ifReg = b.ifReg := rfl
@[simp] theorem record_pending (x : Anomaly) : (b.record x).pending = b.pending := rfl

/-- What noting an access can do: nothing, or one record. -/
theorem note_cases (a : Nat) (x : Access) : b.note a x = b ∨ ∃ r, accessAnomaly a x = some r ∧ b.note a x = b.record r := by
  unfold note
  cases h : accessAnomaly a x with
  | none => exact .inl rfl
  | some r => exact .inr ⟨r, rfl, rfl⟩

/-- What a CPU read can do: nothing, or one record (R70, R81). -/
theorem afterRead_cases (a : Word) : b.afterRead a = b ∨ ∃ r, b.afterRead a = b.record r := by
  unfold afterRead
  split
  · exact .inl rfl
  · exact (b.note_cases a.toNat .read).imp_right fun ⟨r, _, h⟩ => ⟨r, h⟩

/-- What a CPU write can do: nothing while DMA blocks it, else the owner's store and at most one record (R71). -/
theorem memWrite_cases (a : Word) (v : Byte) :
    b.memWrite a v = b ∨ b.memWrite a v = b.store a.toNat v ∨ ∃ r, b.memWrite a v = (b.store a.toNat v).record r := by
  unfold memWrite write
  split
  · exact .inl rfl
  · exact .inr (((b.store a.toNat v).note_cases a.toNat .write).imp_right fun ⟨r, _, h⟩ => ⟨r, h⟩)

/-- A property that neither a record nor an owner's store can end is not ended by a CPU write. -/
theorem memWrite_induct {P : Bus → Prop} (hr : ∀ b x, P b → P (b.record x)) (hs : ∀ b a v, P b → P (b.store a v))
    (a : Word) (v : Byte) (h : P b) : P (b.memWrite a v) := by
  rcases b.memWrite_cases a v with e | e | ⟨r, e⟩ <;> rw [e]
  · exact h
  · exact hs b _ v h
  · exact hr _ r (hs b _ v h)

/-- A property that no record can end is not ended by a CPU read. -/
theorem afterRead_induct {P : Bus → Prop} (hr : ∀ b x, P b → P (b.record x)) (a : Word) (h : P b) : P (b.afterRead a) := by
  rcases b.afterRead_cases a with e | ⟨r, e⟩ <;> rw [e]
  · exact h
  · exact hr b r h

@[simp] theorem note_read (a c : Nat) (x : Access) : (b.note a x).read c = b.read c := by
  rcases b.note_cases a x with e | ⟨r, _, e⟩ <;> rw [e] <;> rfl

@[simp] theorem note_get (a c : Nat) (x : Access) : (b.note a x).get c = b.get c := by
  rcases b.note_cases a x with e | ⟨r, _, e⟩ <;> rw [e] <;> rfl

@[simp] theorem note_ppu (a : Nat) (x : Access) : (b.note a x).ppu = b.ppu := by
  rcases b.note_cases a x with e | ⟨r, _, e⟩ <;> rw [e] <;> rfl

@[simp] theorem note_cart (a : Nat) (x : Access) : (b.note a x).cart = b.cart := by
  rcases b.note_cases a x with e | ⟨r, _, e⟩ <;> rw [e] <;> rfl

/-- No CPU read changes what any address reads as (R81). -/
@[simp] theorem afterRead_memRead (a c : Word) : (b.afterRead a).memRead c = b.memRead c := by
  rcases b.afterRead_cases a with e | ⟨r, e⟩ <;> rw [e] <;> rfl

@[simp] theorem afterRead_get (a : Word) (c : Nat) : (b.afterRead a).get c = b.get c := by
  rcases b.afterRead_cases a with e | ⟨r, e⟩ <;> rw [e] <;> rfl

/-- A CPU read changes nothing but the anomaly set (R70, R81). -/
theorem afterRead_eq (a : Word) : b.afterRead a = { b with anomaly := (b.afterRead a).anomaly } := by
  rcases b.afterRead_cases a with e | ⟨r, e⟩ <;> rw [e] <;> rfl

@[simp] theorem afterRead_ie (a : Word) : (b.afterRead a).ie = b.ie := by
  rcases b.afterRead_cases a with e | ⟨r, e⟩ <;> rw [e] <;> rfl

@[simp] theorem afterRead_ifReg (a : Word) : (b.afterRead a).ifReg = b.ifReg := by
  rcases b.afterRead_cases a with e | ⟨r, e⟩ <;> rw [e] <;> rfl

/-- Recording never removes a record (R44). -/
theorem mem_recordAnomaly (l : List Anomaly) (x y : Anomaly) : y ∈ recordAnomaly l x ↔ y ∈ l ∨ y = x := by
  unfold recordAnomaly
  split
  · rename_i h
    constructor
    · exact .inl
    · rintro (h' | rfl)
      · exact h'
      · exact h
  · simp

end Sys2Proof.Machine.Bus
end

