-- ==== Sys2Proof/Laws/Form.lean ====
section
/-! SUPPORT. Every instruction's meaning is the shared operation of its form: what provers cite instead of taking the 512 arms
of `exec` apart. -/

namespace Sys2Proof.Machine

/-- The shared operation of a form. -/
def execForm (f : Form) (s : State) : Result :=
  match f with
  | .nop => doNop s
  | .halt => doHalt s
  | .stop x => doStop x s
  | .di => doDi s
  | .ei => doEi s
  | .prefixCB => doPrefix s
  | .undefined op => doUndefined op s
  | .ld8 d src => doLd8 d src s
  | .ld8Imm d n => doLd8Imm d n s
  | .loadA m => doLoadA m s
  | .storeA m => doStoreA m s
  | .ld16 p nn => doLd16 p nn s
  | .ldAbsSp nn => doLdAbsSp nn s
  | .ldSpHl => doLdSpHl s
  | .push p => doPush p s
  | .pop p => doPop p s
  | .alu op src => doAlu op src s
  | .inc8 r => doInc8 r s
  | .dec8 r => doDec8 r s
  | .daa => doDaa s
  | .cpl => doCpl s
  | .scf => doScf s
  | .ccf => doCcf s
  | .addHl p => doAddHl p s
  | .inc16 p => doInc16 p s
  | .dec16 p => doDec16 p s
  | .addSp e => doAddSp e s
  | .ldHlSp e => doLdHlSp e s
  | .rotA op => doRotA op s
  | .rot op r => doRot op r s
  | .bit b r => doBit b r s
  | .res b r => doRes b r s
  | .set b r => doSet b r s
  | .jp cc nn => doJp cc nn s
  | .jpHl => doJpHl s
  | .jr cc e => doJr cc e s
  | .call cc nn => doCall cc nn s
  | .ret cc => doRet cc s
  | .reti => doReti s
  | .rst t => doRst t s

theorem exec_eq_execForm (i : Instr) (s : State) : exec i s = execForm i.form s := by cases i <;> rfl

theorem doExtended_eq_execForm (op2 : Byte) (s : State) : doExtended op2 s = execForm (formOfExtended op2) s := by
  unfold doExtended formOfExtended
  rcases h : fieldX op2 with _ | _ | _ | n <;> rfl

/-- The encoder gives the bytes of the form. -/
theorem encode_eq_bytes (i : Instr) : encode i = i.form.bytes := by cases i <;> rfl

end Sys2Proof.Machine
end

