-- ==== Sys2Proof/Laws/Region.lean ====
section
/-! SUPPORT. The region table, from an address to its region and back, so that no proof unfolds it. -/

namespace Sys2Proof.Machine

variable {a : Nat}

/-- The bounds of every region (R61, R69). -/
def Region.Bounds (r : Region) (a : Nat) : Prop :=
  match r with
  | .rom => a < 0x8000
  | .vram => 0x8000 ≤ a ∧ a < 0xA000
  | .cartRam => 0xA000 ≤ a ∧ a < 0xC000
  | .wram => 0xC000 ≤ a ∧ a < 0xE000
  | .echo => 0xE000 ≤ a ∧ a < 0xFE00
  | .oam => 0xFE00 ≤ a ∧ a < 0xFEA0
  | .unmapped => 0xFEA0 ≤ a ∧ a < 0xFF00
  | .joyp => a = 0xFF00
  | .timer => 0xFF04 ≤ a ∧ a ≤ 0xFF07
  | .ppuReg => 0xFF40 ≤ a ∧ a ≤ 0xFF4B
  | .ioSlot => 0xFF01 ≤ a ∧ a < 0xFF80 ∧ ¬ (0xFF04 ≤ a ∧ a ≤ 0xFF07) ∧ ¬ (0xFF40 ≤ a ∧ a ≤ 0xFF4B)
  | .hram => 0xFF80 ≤ a ∧ a < 0xFFFF
  | .ie => 0xFFFF ≤ a

/-- An address is inside its region's bounds. -/
theorem regionOf_bounds (a : Nat) : (regionOf a).Bounds a := by
  by_cases h0 : a < 0x8000
  · rw [regionOf, if_pos h0]; exact h0
  by_cases h1 : a < 0xA000
  · rw [regionOf, if_neg h0, if_pos h1]; exact ⟨not_lt.mp h0, h1⟩
  by_cases h2 : a < 0xC000
  · rw [regionOf, if_neg h0, if_neg h1, if_pos h2]; exact ⟨not_lt.mp h1, h2⟩
  by_cases h3 : a < 0xE000
  · rw [regionOf, if_neg h0, if_neg h1, if_neg h2, if_pos h3]; exact ⟨not_lt.mp h2, h3⟩
  by_cases h4 : a < 0xFE00
  · rw [regionOf, if_neg h0, if_neg h1, if_neg h2, if_neg h3, if_pos h4]; exact ⟨not_lt.mp h3, h4⟩
  by_cases h5 : a < 0xFEA0
  · rw [regionOf, if_neg h0, if_neg h1, if_neg h2, if_neg h3, if_neg h4, if_pos h5]; exact ⟨not_lt.mp h4, h5⟩
  by_cases h6 : a < 0xFF00
  · rw [regionOf, if_neg h0, if_neg h1, if_neg h2, if_neg h3, if_neg h4, if_neg h5, if_pos h6]; exact ⟨not_lt.mp h5, h6⟩
  rw [regionOf, if_neg h0, if_neg h1, if_neg h2, if_neg h3, if_neg h4, if_neg h5, if_neg h6]
  clear h0 h1 h2 h3 h4 h5
  by_cases h7 : a = 0xFF00
  · rw [if_pos h7]; exact h7
  rw [if_neg h7]
  by_cases h8 : 0xFF04 ≤ a ∧ a ≤ 0xFF07
  · rw [if_pos h8]; exact h8
  rw [if_neg h8]
  by_cases h9 : 0xFF40 ≤ a ∧ a ≤ 0xFF4B
  · rw [if_pos h9]; exact h9
  rw [if_neg h9]
  by_cases h10 : a < 0xFF80
  · rw [if_pos h10]; exact ⟨by omega, h10, h8, h9⟩
  rw [if_neg h10]
  by_cases h11 : a < 0xFFFF
  · rw [if_pos h11]; exact ⟨by omega, h11⟩
  rw [if_neg h11]; exact not_lt.mp h11

/-- The bounds of two different regions share no address. -/
theorem Region.bounds_unique {r q : Region} (hr : r.Bounds a) (hq : q.Bounds a) : r = q := by
  cases r <;> cases q <;> first | rfl | (simp only [Region.Bounds] at hr hq; exfalso; omega)

/-- An address is of the region whose bounds it is in. -/
theorem regionOf_eq {r : Region} (h : r.Bounds a) : regionOf a = r := Region.bounds_unique (regionOf_bounds a) h

/-- A region's bounds, from the region. -/
theorem bounds_of_regionOf {r : Region} (h : regionOf a = r) : r.Bounds a := h ▸ regionOf_bounds a

/-- DMA blocks exactly 0xC000 to 0xFDFF (R76). -/
theorem dmaBlocked_iff : dmaBlocked a = true ↔ 0xC000 ≤ a ∧ a ≤ 0xFDFF := by
  unfold dmaBlocked
  rw [Bool.or_eq_true, decide_eq_true_iff, decide_eq_true_iff]
  constructor
  · rintro (h | h)
    · have := bounds_of_regionOf h; simp only [Region.Bounds] at this; omega
    · have := bounds_of_regionOf h; simp only [Region.Bounds] at this; omega
  · intro h
    by_cases hw : a < 0xE000
    · exact .inl (regionOf_eq (r := .wram) ⟨h.1, hw⟩)
    · exact .inr (regionOf_eq (r := .echo) ⟨by omega, by omega⟩)

/-- An access outside the hole of R68 records nothing: every address the Timer or the PPU is given is one of its own (R302). -/
theorem accessAnomaly_eq_none (x : Access) (h : regionOf a ≠ .unmapped) : accessAnomaly a x = none := by
  have hb := regionOf_bounds a
  unfold accessAnomaly
  cases hr : regionOf a <;> rw [hr] at hb <;> simp only [Region.Bounds] at hb <;> dsimp only
  case unmapped => exact absurd hr h
  case timer =>
    have : Timer.known a = true := by unfold Timer.known; simp; omega
    rw [this]; rfl
  case vram =>
    have : Ppu.known a = true := by unfold Ppu.known; simp; omega
    rw [this]; rfl
  case oam =>
    have : Ppu.known a = true := by unfold Ppu.known; simp; omega
    rw [this]; rfl
  case ppuReg =>
    have : Ppu.known a = true := by unfold Ppu.known; simp; omega
    rw [this]; rfl

theorem note_of_mapped (b : Bus) (x : Access) (h : regionOf a ≠ .unmapped) : b.note a x = b := by
  unfold Bus.note
  rw [accessAnomaly_eq_none x h]

end Sys2Proof.Machine
end

