-- ==== Sys2Proof/Laws/State.lean ====
section
/-! SUPPORT. One lemma per field per update of the state, so that no proof unfolds a record update. -/

namespace Sys2Proof.Machine.State

variable (s : State)

@[simp] theorem setCpu_cpu (c : Cpu) : (s.setCpu c).cpu = c := rfl
@[simp] theorem setCpu_bus (c : Cpu) : (s.setCpu c).bus = s.bus := rfl
@[simp] theorem setCpu_cycles (c : Cpu) : (s.setCpu c).cycles = s.cycles := rfl
@[simp] theorem setCpu_inputs (c : Cpu) : (s.setCpu c).inputs = s.inputs := rfl
@[simp] theorem setBus_cpu (b : Bus) : (s.setBus b).cpu = s.cpu := rfl
@[simp] theorem setBus_bus (b : Bus) : (s.setBus b).bus = b := rfl
@[simp] theorem setBus_cycles (b : Bus) : (s.setBus b).cycles = s.cycles := rfl
@[simp] theorem setBus_inputs (b : Bus) : (s.setBus b).inputs = s.inputs := rfl
@[simp] theorem tick_cpu (n : Nat) : (s.tick n).cpu = s.cpu := rfl
@[simp] theorem tick_bus (n : Nat) : (s.tick n).bus = s.bus := rfl
@[simp] theorem tick_cycles (n : Nat) : (s.tick n).cycles = s.cycles + n := rfl
@[simp] theorem tick_inputs (n : Nat) : (s.tick n).inputs = s.inputs := rfl
@[simp] theorem setPc_cpu (v : Word) : (s.setPc v).cpu = { s.cpu with pc := v } := rfl
@[simp] theorem setPc_bus (v : Word) : (s.setPc v).bus = s.bus := rfl
@[simp] theorem setPc_cycles (v : Word) : (s.setPc v).cycles = s.cycles := rfl
@[simp] theorem setPc_inputs (v : Word) : (s.setPc v).inputs = s.inputs := rfl
@[simp] theorem setSp_cpu (v : Word) : (s.setSp v).cpu = { s.cpu with sp := v } := rfl
@[simp] theorem setSp_bus (v : Word) : (s.setSp v).bus = s.bus := rfl
@[simp] theorem setSp_cycles (v : Word) : (s.setSp v).cycles = s.cycles := rfl
@[simp] theorem setSp_inputs (v : Word) : (s.setSp v).inputs = s.inputs := rfl
@[simp] theorem setF_cpu (v : Byte) : (s.setF v).cpu = { s.cpu with f := v } := rfl
@[simp] theorem setF_bus (v : Byte) : (s.setF v).bus = s.bus := rfl
@[simp] theorem setF_cycles (v : Byte) : (s.setF v).cycles = s.cycles := rfl
@[simp] theorem setF_inputs (v : Byte) : (s.setF v).inputs = s.inputs := rfl
@[simp] theorem setA_cpu (v : Byte) : (s.setA v).cpu = { s.cpu with a := v } := rfl
@[simp] theorem setA_bus (v : Byte) : (s.setA v).bus = s.bus := rfl
@[simp] theorem setA_cycles (v : Byte) : (s.setA v).cycles = s.cycles := rfl
@[simp] theorem setA_inputs (v : Byte) : (s.setA v).inputs = s.inputs := rfl
@[simp] theorem noteRead_cpu (a : Word) : (s.noteRead a).cpu = s.cpu := rfl
@[simp] theorem noteRead_bus (a : Word) : (s.noteRead a).bus = s.bus.afterRead a := rfl
@[simp] theorem noteRead_cycles (a : Word) : (s.noteRead a).cycles = s.cycles := rfl
@[simp] theorem noteRead_inputs (a : Word) : (s.noteRead a).inputs = s.inputs := rfl
@[simp] theorem write_cpu (a : Word) (v : Byte) : (s.write a v).cpu = s.cpu := rfl
@[simp] theorem write_bus (a : Word) (v : Byte) : (s.write a v).bus = s.bus.memWrite a v := rfl
@[simp] theorem write_cycles (a : Word) (v : Byte) : (s.write a v).cycles = s.cycles := rfl
@[simp] theorem write_inputs (a : Word) (v : Byte) : (s.write a v).inputs = s.inputs := rfl
@[simp] theorem write16_cpu (a v : Word) : (s.write16 a v).cpu = s.cpu := rfl
@[simp] theorem write16_bus (a v : Word) : (s.write16 a v).bus = (s.bus.memWrite a (loByte v)).memWrite (a + 1) (hiByte v) := rfl
@[simp] theorem write16_cycles (a v : Word) : (s.write16 a v).cycles = s.cycles := rfl
@[simp] theorem write16_inputs (a v : Word) : (s.write16 a v).inputs = s.inputs := rfl
@[simp] theorem push16_cpu (v : Word) : (s.push16 v).cpu = { s.cpu with sp := s.cpu.sp - 2 } := rfl
@[simp] theorem push16_bus (v : Word) : (s.push16 v).bus = (s.bus.memWrite (s.cpu.sp - 2) (loByte v)).memWrite (s.cpu.sp - 2 + 1) (hiByte v) := rfl
@[simp] theorem push16_cycles (v : Word) : (s.push16 v).cycles = s.cycles := rfl
@[simp] theorem push16_inputs (v : Word) : (s.push16 v).inputs = s.inputs := rfl
@[simp] theorem clearIf_cpu (i : Nat) : (s.clearIf i).cpu = s.cpu := rfl
@[simp] theorem clearIf_bus (i : Nat) : (s.clearIf i).bus = s.bus.setIf (resBit s.bus.ifReg i) := rfl
@[simp] theorem clearIf_cycles (i : Nat) : (s.clearIf i).cycles = s.cycles := rfl
@[simp] theorem clearIf_inputs (i : Nat) : (s.clearIf i).inputs = s.inputs := rfl
@[simp] theorem clearFrameDone_cpu : (s.clearFrameDone).cpu = s.cpu := rfl
@[simp] theorem clearFrameDone_bus : (s.clearFrameDone).bus = { s.bus with ppu := { s.bus.ppu with frameDone := false } } := rfl
@[simp] theorem clearFrameDone_cycles : (s.clearFrameDone).cycles = s.cycles := rfl
@[simp] theorem clearFrameDone_inputs : (s.clearFrameDone).inputs = s.inputs := rfl

/-! Operands by their form. -/

@[simp] theorem r8_reg (q : Reg8) : s.r8 (.reg q) = s.cpu.reg q := rfl
@[simp] theorem r8_atHL : s.r8 .atHL = s.bus.memRead s.cpu.hl := rfl
@[simp] theorem noteR8_reg (q : Reg8) : s.noteR8 (.reg q) = s := rfl
@[simp] theorem noteR8_atHL : s.noteR8 .atHL = s.setBus (s.bus.afterRead s.cpu.hl) := rfl
@[simp] theorem setR8_reg (q : Reg8) (v : Byte) : s.setR8 (.reg q) v = s.setCpu (s.cpu.setReg q v) := rfl
@[simp] theorem setR8_atHL (v : Byte) : s.setR8 .atHL v = s.setBus (s.bus.memWrite s.cpu.hl v) := rfl
@[simp] theorem aluSrc_r8 (r : R8) : s.aluSrc (.r8 r) = s.r8 r := rfl
@[simp] theorem aluSrc_imm (n : Byte) : s.aluSrc (.imm n) = n := rfl
@[simp] theorem noteAluSrc_r8 (r : R8) : s.noteAluSrc (.r8 r) = s.noteR8 r := rfl
@[simp] theorem noteAluSrc_imm (n : Byte) : s.noteAluSrc (.imm n) = s := rfl

end Sys2Proof.Machine.State

namespace Sys2Proof.Machine

/-- The halves of a pair put together are the word. -/
@[simp] theorem mkWord_hiByte_loByte (w : Word) : mkWord (hiByte w) (loByte w) = w := by
  unfold mkWord hiByte loByte
  ext i hi
  simp only [BitVec.getElem_append, BitVec.getElem_extractLsb']
  split
  · simp [BitVec.getLsbD_eq_getElem, hi]
  · rename_i h
    rw [show 8 + (i - 8) = i by omega, BitVec.getLsbD_eq_getElem hi]

/-- The high half of a pair. -/
@[simp] theorem hiByte_mkWord (h l : Byte) : hiByte (mkWord h l) = h := by
  unfold mkWord hiByte
  ext i hi
  rw [BitVec.getElem_extractLsb']
  refine (BitVec.getLsbD_append (x := h) (y := l)).trans ?_
  simp [BitVec.getLsbD_eq_getElem, hi]

/-- The low half of a pair. -/
@[simp] theorem loByte_mkWord (h l : Byte) : loByte (mkWord h l) = l := by
  unfold mkWord loByte
  ext i hi
  rw [BitVec.getElem_extractLsb']
  refine (BitVec.getLsbD_append (x := h) (y := l)).trans ?_
  simp [BitVec.getLsbD_eq_getElem, hi]

end Sys2Proof.Machine

namespace Sys2Proof.Machine.Cpu

variable (c : Cpu)

@[simp] theorem setReg_f (r : Reg8) (v : Byte) : (c.setReg r v).f = c.f := by cases r <;> rfl
@[simp] theorem setReg_sp (r : Reg8) (v : Byte) : (c.setReg r v).sp = c.sp := by cases r <;> rfl
@[simp] theorem setReg_pc (r : Reg8) (v : Byte) : (c.setReg r v).pc = c.pc := by cases r <;> rfl
@[simp] theorem setReg_ime (r : Reg8) (v : Byte) : (c.setReg r v).ime = c.ime := by cases r <;> rfl
@[simp] theorem setReg_imePending (r : Reg8) (v : Byte) : (c.setReg r v).imePending = c.imePending := by cases r <;> rfl
@[simp] theorem setReg_halted (r : Reg8) (v : Byte) : (c.setReg r v).halted = c.halted := by cases r <;> rfl
@[simp] theorem setReg_stopped (r : Reg8) (v : Byte) : (c.setReg r v).stopped = c.stopped := by cases r <;> rfl
@[simp] theorem setReg16_f (p : R16) (v : Word) : (c.setReg16 p v).f = c.f := by cases p <;> rfl
@[simp] theorem setReg16_pc (p : R16) (v : Word) : (c.setReg16 p v).pc = c.pc := by cases p <;> rfl
@[simp] theorem setReg16_ime (p : R16) (v : Word) : (c.setReg16 p v).ime = c.ime := by cases p <;> rfl
@[simp] theorem setReg16_imePending (p : R16) (v : Word) : (c.setReg16 p v).imePending = c.imePending := by cases p <;> rfl
@[simp] theorem setReg16_halted (p : R16) (v : Word) : (c.setReg16 p v).halted = c.halted := by cases p <;> rfl
@[simp] theorem setReg16_stopped (p : R16) (v : Word) : (c.setReg16 p v).stopped = c.stopped := by cases p <;> rfl
@[simp] theorem setStk_sp (p : R16Stk) (v : Word) : (c.setStk p v).sp = c.sp := by cases p <;> rfl
@[simp] theorem setStk_pc (p : R16Stk) (v : Word) : (c.setStk p v).pc = c.pc := by cases p <;> rfl
@[simp] theorem setStk_ime (p : R16Stk) (v : Word) : (c.setStk p v).ime = c.ime := by cases p <;> rfl
@[simp] theorem setStk_imePending (p : R16Stk) (v : Word) : (c.setStk p v).imePending = c.imePending := by cases p <;> rfl
@[simp] theorem setStk_halted (p : R16Stk) (v : Word) : (c.setStk p v).halted = c.halted := by cases p <;> rfl
@[simp] theorem setStk_stopped (p : R16Stk) (v : Word) : (c.setStk p v).stopped = c.stopped := by cases p <;> rfl
@[simp] theorem setHl_a (v : Word) : (c.setHl v).a = c.a := rfl
@[simp] theorem setHl_f (v : Word) : (c.setHl v).f = c.f := rfl
@[simp] theorem setHl_b (v : Word) : (c.setHl v).b = c.b := rfl
@[simp] theorem setHl_c (v : Word) : (c.setHl v).c = c.c := rfl
@[simp] theorem setHl_d (v : Word) : (c.setHl v).d = c.d := rfl
@[simp] theorem setHl_e (v : Word) : (c.setHl v).e = c.e := rfl
@[simp] theorem setHl_sp (v : Word) : (c.setHl v).sp = c.sp := rfl
@[simp] theorem setHl_pc (v : Word) : (c.setHl v).pc = c.pc := rfl
@[simp] theorem setHl_ime (v : Word) : (c.setHl v).ime = c.ime := rfl
@[simp] theorem setHl_imePending (v : Word) : (c.setHl v).imePending = c.imePending := rfl
@[simp] theorem setHl_halted (v : Word) : (c.setHl v).halted = c.halted := rfl
@[simp] theorem setHl_stopped (v : Word) : (c.setHl v).stopped = c.stopped := rfl

/-- A register that was written holds the value. -/
@[simp] theorem reg_setReg_same (r : Reg8) (v : Byte) : (c.setReg r v).reg r = v := by cases r <;> rfl

/-- Writing a register leaves every other one alone. -/
theorem reg_setReg_ne (r q : Reg8) (v : Byte) (h : q ≠ r) : (c.setReg r v).reg q = c.reg q := by
  cases r <;> cases q <;> first | rfl | exact absurd rfl h

/-- A pair that was written holds the value. -/
@[simp] theorem reg16_setReg16_same (p : R16) (v : Word) : (c.setReg16 p v).reg16 p = v := by
  cases p <;> simp [setReg16, reg16, bc, de, hl, setHl]

end Sys2Proof.Machine.Cpu
end

