-- ==== Sys2Proof/Laws/Step.lean ====
section
/-! SUPPORT. What an instruction and a step can do to the BUS, said once: a property that no CPU write and no record ends is
kept by every instruction, and one that the step's other parts keep too is kept by every step. -/

namespace Sys2Proof.Machine

/-- An instruction changes the BUS by CPU writes and anomaly records only (R92). -/
theorem execForm_bus {P : Bus → Prop} (hw : ∀ b a v, P b → P (b.memWrite a v)) (hr : ∀ b x, P b → P (b.record x)) (f : Form)
    (s t : State) (h : execForm f s = .next t) (hs : P s.bus) : P t.bus := by
  have hn : ∀ (b : Bus) (a : Word), P b → P (b.afterRead a) := fun b a h => b.afterRead_induct hr a h
  have h8 : ∀ (s : State) (r : R8), P s.bus → P (s.noteR8 r).bus := by
    intro s r hs
    cases r
    · exact hs
    · exact hn _ _ hs
  have hset : ∀ (s : State) (r : R8) (v : Byte), P s.bus → P (s.setR8 r v).bus := by
    intro s r v hs
    cases r
    · exact hs
    · exact hw _ _ _ hs
  have hsrc : ∀ (s : State) (r : AluSrc), P s.bus → P (s.noteAluSrc r).bus := by
    intro s r hs
    cases r
    · exact h8 _ _ hs
    · exact hs
  have hind : ∀ (s : State) (m : Indirect), P s.bus → P (s.afterIndirect m).bus := by
    intro s m hs
    cases m <;> exact hs
  have hpush : ∀ (s : State) (v : Word), P s.bus → P (s.push16 v).bus := fun s v hs => hw _ _ _ (hw _ _ _ hs)
  have hpop : ∀ s : State, P s.bus → P s.pop16.2.bus := fun s hs => hn _ _ (hn _ _ hs)
  have hext : ∀ (f : Form) (s t : State), f ≠ .prefixCB → execForm f s = .next t → P s.bus → P t.bus := by
    intro f s t hf h hs
    cases f with
    | prefixCB => exact absurd rfl hf
    | nop => cases h; exact hs
    | halt => cases h; exact hs
    | stop _ => cases h; exact hs
    | di => cases h; exact hs
    | ei =>
      cases h
      show P (if _ then _ else _ : State).bus
      split <;> exact hs
    | undefined op => cases h; exact hr _ _ hs
    | ld8 d src => cases h; exact hset _ _ _ (h8 _ _ hs)
    | ld8Imm d n => cases h; exact hset _ _ _ hs
    | loadA m => cases h; exact hind _ m (hn _ _ hs)
    | storeA m => cases h; exact hind _ m (hw _ _ _ hs)
    | ld16 _ _ => cases h; exact hs
    | ldAbsSp _ => cases h; exact hw _ _ _ (hw _ _ _ hs)
    | ldSpHl => cases h; exact hs
    | push _ => cases h; exact hpush _ _ hs
    | pop _ => cases h; exact hpop _ hs
    | alu _ src => cases h; exact hsrc _ src hs
    | inc8 r => cases h; exact hset _ r _ (h8 _ r hs)
    | dec8 r => cases h; exact hset _ r _ (h8 _ r hs)
    | daa => cases h; exact hs
    | cpl => cases h; exact hs
    | scf => cases h; exact hs
    | ccf => cases h; exact hs
    | addHl _ => cases h; exact hs
    | inc16 _ => cases h; exact hs
    | dec16 _ => cases h; exact hs
    | addSp _ => cases h; exact hs
    | ldHlSp _ => cases h; exact hs
    | rotA _ => cases h; exact hs
    | rot _ r => cases h; exact hset _ r _ (h8 _ r hs)
    | bit _ r => cases h; exact h8 _ r hs
    | res _ r => cases h; exact hset _ r _ (h8 _ r hs)
    | set _ r => cases h; exact hset _ r _ (h8 _ r hs)
    | jp _ _ => cases h; split <;> exact hs
    | jpHl => cases h; exact hs
    | jr _ _ => cases h; split <;> exact hs
    | call _ _ =>
      cases h
      split
      · exact hpush _ _ hs
      · exact hs
    | ret _ =>
      cases h
      split
      · exact hpop _ hs
      · exact hs
    | reti => cases h; exact hpop _ hs
    | rst _ => cases h; exact hpush _ _ hs
  by_cases hf : f = .prefixCB
  · subst hf
    have e : execForm (formOfExtended s.fetch8.1) s.fetch8.2 = .next t := by
      rw [← doExtended_eq_execForm]; exact h
    refine hext _ _ t ?_ e (hn _ _ hs)
    unfold formOfExtended
    rcases fieldX s.fetch8.1 with _ | _ | _ | n <;> simp
  · exact hext f s t hf h hs

theorem exec_bus {P : Bus → Prop} (hw : ∀ b a v, P b → P (b.memWrite a v)) (hr : ∀ b x, P b → P (b.record x)) (i : Instr)
    (s t : State) (h : exec i s = .next t) (hs : P s.bus) : P t.bus :=
  execForm_bus hw hr i.form s t (exec_eq_execForm i s ▸ h) hs

/-- Everything a step that has a next state does, in its order (R300, R305). -/
theorem step_cases {s t : State} (h : step s = .next t) :
    ∃ u, s.beginStep.interruptCheck.runInstr = .next u ∧
      (u.promoteEi s.beginStep.interruptCheck.cpu.imePending).cycles % 4 = 0 ∧
      t = (u.promoteEi s.beginStep.interruptCheck.cpu.imePending).advanceBoard := by
  unfold step at h
  cases hu : s.beginStep.interruptCheck.runInstr with
  | next u =>
    simp only [hu, State.finishStep] at h
    split at h
    · rename_i hc
      cases h
      exact ⟨u, rfl, hc, rfl⟩
    · cases h
  | fault r => simp [hu] at h
  | refused r => simp [hu] at h

/-- A fetch changes the BUS by anomaly records only (R70, R78). -/
theorem fetchInstr_bus {P : Bus → Prop} (hr : ∀ b x, P b → P (b.record x)) (s : State) (hs : P s.bus) :
    P s.fetchInstr.2.bus := by
  have hn : ∀ (b : Bus) (a : Word), P b → P (b.afterRead a) := fun b a h => b.afterRead_induct hr a h
  unfold State.fetchInstr
  dsimp only
  split
  · exact hn _ _ hs
  · split
    · exact hn _ _ (hn _ _ hs)
    · exact hn _ _ (hn _ _ (hn _ _ hs))

/-- A property of the BUS that each part of a step keeps is kept by the step. -/
theorem step_bus {P : Bus → Prop} (hw : ∀ b a v, P b → P (b.memWrite a v)) (hr : ∀ b x, P b → P (b.record x))
    (hif : ∀ b v, P b → P (b.setIf v))
    (hclear : ∀ b : Bus, P b → P { b with ppu := { b.ppu with frameDone := false } })
    (htimer : ∀ (b : Bus) c, P b → P { b with timer := b.timer.run c }) (htick : ∀ b : Bus, P b → P b.tick4)
    (hjoy : ∀ (b : Bus) v, P b → P { b with joypad := b.joypad.refresh v }) (hmerge : ∀ b : Bus, P b → P b.merge)
    (s t : State) (h : step s = .next t) (hs : P s.bus) : P t.bus := by
  obtain ⟨u, hu, -, rfl⟩ := step_cases h
  have h1 : P s.beginStep.bus := by
    unfold State.beginStep
    dsimp only
    split
    · exact hs
    · split
      · exact hclear _ hs
      · exact hs
  have hwake : ∀ s : State, P s.bus → P s.wake.bus := by
    intro s hs
    unfold State.wake
    split <;> exact hs
  have h2 : P s.beginStep.interruptCheck.bus := by
    unfold State.interruptCheck
    dsimp only
    split
    · split
      · exact hw _ _ _ (hw _ _ _ (hif _ _ (hwake _ h1)))
      · exact hwake _ h1
    · exact hwake _ h1
  have h3 : P u.bus := by
    unfold State.runInstr at hu
    split at hu
    · cases hu; exact h2
    · exact exec_bus hw hr _ _ u hu (fetchInstr_bus hr _ h2)
  have h4 : P (u.promoteEi s.beginStep.interruptCheck.cpu.imePending).bus := by
    unfold State.promoteEi
    split <;> exact h3
  have hrun : ∀ (n : Nat) (b : Bus), P b → P (Bus.tick4^[n] b) := by
    intro n
    induction n with
    | zero => exact fun b h => h
    | succ n ih => exact fun b h => ih _ (htick b h)
  exact hmerge _ (hjoy _ _ (hrun _ _ (htimer _ _ h4)))

end Sys2Proof.Machine
end

