-- ==== Sys2Proof/Tests/Slice0.lean ====
section
/-! SUPPORT. Tests of the model: the check of `WellFormed`, the decoding of a word written out from the encoding of every row of
the opcode table (R110, R124, R126), instructions and peripherals against the vectors that the spec works out by hand
(95_test_vectors.md, its sections named beside each group), and for every statement with hypotheses a witness that meets them. -/

open Sys2Proof Sys2Proof.Machine

namespace Sys2Proof.Tests

/-! ## WellFormed -/

theorem test_wellFormed_refuses_prefix : ¬ WellFormed .prefix_CB := by decide

theorem test_wellFormed_accepts_rlc_and_undefined : WellFormed .rlc_B ∧ WellFormed .undef_DD ∧ WellFormed (.jp_nn 0xFFFF) := by
  decide

/-! ## Decoding: the words of R124 and R126, the operands n = 0x5A, e = 0xA5, x = 0xC3, nn = 0x1234 -/

theorem test_decode_primary_0x :
    decode [0b00000000] = .ok (.nop, []) ∧
    decode [0b00000001, 0b00110100, 0b00010010] = .ok (.ld_BC_nn 0x1234, []) ∧
    decode [0b00000010] = .ok (.ld_atBC_A, []) ∧
    decode [0b00000011] = .ok (.inc_BC, []) ∧
    decode [0b00000100] = .ok (.inc_B, []) ∧
    decode [0b00000101] = .ok (.dec_B, []) ∧
    decode [0b00000110, 0b01011010] = .ok (.ld_B_n 0x5A, []) ∧
    decode [0b00000111] = .ok (.rlca, []) ∧
    decode [0b00001000, 0b00110100, 0b00010010] = .ok (.ld_atNN_SP 0x1234, []) ∧
    decode [0b00001001] = .ok (.add_HL_BC, []) ∧
    decode [0b00001010] = .ok (.ld_A_atBC, []) ∧
    decode [0b00001011] = .ok (.dec_BC, []) ∧
    decode [0b00001100] = .ok (.inc_C, []) ∧
    decode [0b00001101] = .ok (.dec_C, []) ∧
    decode [0b00001110, 0b01011010] = .ok (.ld_C_n 0x5A, []) ∧
    decode [0b00001111] = .ok (.rrca, []) :=
  ⟨rfl, rfl, rfl, rfl, rfl, rfl, rfl, rfl, rfl, rfl, rfl, rfl, rfl, rfl, rfl, rfl⟩

theorem test_decode_primary_1x :
    decode [0b00010000, 0b11000011] = .ok (.stop 0xC3, []) ∧
    decode [0b00010001, 0b00110100, 0b00010010] = .ok (.ld_DE_nn 0x1234, []) ∧
    decode [0b00010010] = .ok (.ld_atDE_A, []) ∧
    decode [0b00010011] = .ok (.inc_DE, []) ∧
    decode [0b00010100] = .ok (.inc_D, []) ∧
    decode [0b00010101] = .ok (.dec_D, []) ∧
    decode [0b00010110, 0b01011010] = .ok (.ld_D_n 0x5A, []) ∧
    decode [0b00010111] = .ok (.rla, []) ∧
    decode [0b00011000, 0b10100101] = .ok (.jr_e 0xA5, []) ∧
    decode [0b00011001] = .ok (.add_HL_DE, []) ∧
    decode [0b00011010] = .ok (.ld_A_atDE, []) ∧
    decode [0b00011011] = .ok (.dec_DE, []) ∧
    decode [0b00011100] = .ok (.inc_E, []) ∧
    decode [0b00011101] = .ok (.dec_E, []) ∧
    decode [0b00011110, 0b01011010] = .ok (.ld_E_n 0x5A, []) ∧
    decode [0b00011111] = .ok (.rra, []) :=
  ⟨rfl, rfl, rfl, rfl, rfl, rfl, rfl, rfl, rfl, rfl, rfl, rfl, rfl, rfl, rfl, rfl⟩

theorem test_decode_primary_2x :
    decode [0b00100000, 0b10100101] = .ok (.jr_NZ_e 0xA5, []) ∧
    decode [0b00100001, 0b00110100, 0b00010010] = .ok (.ld_HL_nn 0x1234, []) ∧
    decode [0b00100010] = .ok (.ld_atHLinc_A, []) ∧
    decode [0b00100011] = .ok (.inc_HL, []) ∧
    decode [0b00100100] = .ok (.inc_H, []) ∧
    decode [0b00100101] = .ok (.dec_H, []) ∧
    decode [0b00100110, 0b01011010] = .ok (.ld_H_n 0x5A, []) ∧
    decode [0b00100111] = .ok (.daa, []) ∧
    decode [0b00101000, 0b10100101] = .ok (.jr_Z_e 0xA5, []) ∧
    decode [0b00101001] = .ok (.add_HL_HL, []) ∧
    decode [0b00101010] = .ok (.ld_A_atHLinc, []) ∧
    decode [0b00101011] = .ok (.dec_HL, []) ∧
    decode [0b00101100] = .ok (.inc_L, []) ∧
    decode [0b00101101] = .ok (.dec_L, []) ∧
    decode [0b00101110, 0b01011010] = .ok (.ld_L_n 0x5A, []) ∧
    decode [0b00101111] = .ok (.cpl, []) :=
  ⟨rfl, rfl, rfl, rfl, rfl, rfl, rfl, rfl, rfl, rfl, rfl, rfl, rfl, rfl, rfl, rfl⟩

theorem test_decode_primary_3x :
    decode [0b00110000, 0b10100101] = .ok (.jr_NC_e 0xA5, []) ∧
    decode [0b00110001, 0b00110100, 0b00010010] = .ok (.ld_SP_nn 0x1234, []) ∧
    decode [0b00110010] = .ok (.ld_atHLdec_A, []) ∧
    decode [0b00110011] = .ok (.inc_SP, []) ∧
    decode [0b00110100] = .ok (.inc_atHL, []) ∧
    decode [0b00110101] = .ok (.dec_atHL, []) ∧
    decode [0b00110110, 0b01011010] = .ok (.ld_atHL_n 0x5A, []) ∧
    decode [0b00110111] = .ok (.scf, []) ∧
    decode [0b00111000, 0b10100101] = .ok (.jr_C_e 0xA5, []) ∧
    decode [0b00111001] = .ok (.add_HL_SP, []) ∧
    decode [0b00111010] = .ok (.ld_A_atHLdec, []) ∧
    decode [0b00111011] = .ok (.dec_SP, []) ∧
    decode [0b00111100] = .ok (.inc_A, []) ∧
    decode [0b00111101] = .ok (.dec_A, []) ∧
    decode [0b00111110, 0b01011010] = .ok (.ld_A_n 0x5A, []) ∧
    decode [0b00111111] = .ok (.ccf, []) :=
  ⟨rfl, rfl, rfl, rfl, rfl, rfl, rfl, rfl, rfl, rfl, rfl, rfl, rfl, rfl, rfl, rfl⟩

theorem test_decode_primary_4x :
    decode [0b01000000] = .ok (.ld_B_B, []) ∧
    decode [0b01000001] = .ok (.ld_B_C, []) ∧
    decode [0b01000010] = .ok (.ld_B_D, []) ∧
    decode [0b01000011] = .ok (.ld_B_E, []) ∧
    decode [0b01000100] = .ok (.ld_B_H, []) ∧
    decode [0b01000101] = .ok (.ld_B_L, []) ∧
    decode [0b01000110] = .ok (.ld_B_atHL, []) ∧
    decode [0b01000111] = .ok (.ld_B_A, []) ∧
    decode [0b01001000] = .ok (.ld_C_B, []) ∧
    decode [0b01001001] = .ok (.ld_C_C, []) ∧
    decode [0b01001010] = .ok (.ld_C_D, []) ∧
    decode [0b01001011] = .ok (.ld_C_E, []) ∧
    decode [0b01001100] = .ok (.ld_C_H, []) ∧
    decode [0b01001101] = .ok (.ld_C_L, []) ∧
    decode [0b01001110] = .ok (.ld_C_atHL, []) ∧
    decode [0b01001111] = .ok (.ld_C_A, []) :=
  ⟨rfl, rfl, rfl, rfl, rfl, rfl, rfl, rfl, rfl, rfl, rfl, rfl, rfl, rfl, rfl, rfl⟩

theorem test_decode_primary_5x :
    decode [0b01010000] = .ok (.ld_D_B, []) ∧
    decode [0b01010001] = .ok (.ld_D_C, []) ∧
    decode [0b01010010] = .ok (.ld_D_D, []) ∧
    decode [0b01010011] = .ok (.ld_D_E, []) ∧
    decode [0b01010100] = .ok (.ld_D_H, []) ∧
    decode [0b01010101] = .ok (.ld_D_L, []) ∧
    decode [0b01010110] = .ok (.ld_D_atHL, []) ∧
    decode [0b01010111] = .ok (.ld_D_A, []) ∧
    decode [0b01011000] = .ok (.ld_E_B, []) ∧
    decode [0b01011001] = .ok (.ld_E_C, []) ∧
    decode [0b01011010] = .ok (.ld_E_D, []) ∧
    decode [0b01011011] = .ok (.ld_E_E, []) ∧
    decode [0b01011100] = .ok (.ld_E_H, []) ∧
    decode [0b01011101] = .ok (.ld_E_L, []) ∧
    decode [0b01011110] = .ok (.ld_E_atHL, []) ∧
    decode [0b01011111] = .ok (.ld_E_A, []) :=
  ⟨rfl, rfl, rfl, rfl, rfl, rfl, rfl, rfl, rfl, rfl, rfl, rfl, rfl, rfl, rfl, rfl⟩

theorem test_decode_primary_6x :
    decode [0b01100000] = .ok (.ld_H_B, []) ∧
    decode [0b01100001] = .ok (.ld_H_C, []) ∧
    decode [0b01100010] = .ok (.ld_H_D, []) ∧
    decode [0b01100011] = .ok (.ld_H_E, []) ∧
    decode [0b01100100] = .ok (.ld_H_H, []) ∧
    decode [0b01100101] = .ok (.ld_H_L, []) ∧
    decode [0b01100110] = .ok (.ld_H_atHL, []) ∧
    decode [0b01100111] = .ok (.ld_H_A, []) ∧
    decode [0b01101000] = .ok (.ld_L_B, []) ∧
    decode [0b01101001] = .ok (.ld_L_C, []) ∧
    decode [0b01101010] = .ok (.ld_L_D, []) ∧
    decode [0b01101011] = .ok (.ld_L_E, []) ∧
    decode [0b01101100] = .ok (.ld_L_H, []) ∧
    decode [0b01101101] = .ok (.ld_L_L, []) ∧
    decode [0b01101110] = .ok (.ld_L_atHL, []) ∧
    decode [0b01101111] = .ok (.ld_L_A, []) :=
  ⟨rfl, rfl, rfl, rfl, rfl, rfl, rfl, rfl, rfl, rfl, rfl, rfl, rfl, rfl, rfl, rfl⟩

theorem test_decode_primary_7x :
    decode [0b01110000] = .ok (.ld_atHL_B, []) ∧
    decode [0b01110001] = .ok (.ld_atHL_C, []) ∧
    decode [0b01110010] = .ok (.ld_atHL_D, []) ∧
    decode [0b01110011] = .ok (.ld_atHL_E, []) ∧
    decode [0b01110100] = .ok (.ld_atHL_H, []) ∧
    decode [0b01110101] = .ok (.ld_atHL_L, []) ∧
    decode [0b01110110] = .ok (.halt, []) ∧
    decode [0b01110111] = .ok (.ld_atHL_A, []) ∧
    decode [0b01111000] = .ok (.ld_A_B, []) ∧
    decode [0b01111001] = .ok (.ld_A_C, []) ∧
    decode [0b01111010] = .ok (.ld_A_D, []) ∧
    decode [0b01111011] = .ok (.ld_A_E, []) ∧
    decode [0b01111100] = .ok (.ld_A_H, []) ∧
    decode [0b01111101] = .ok (.ld_A_L, []) ∧
    decode [0b01111110] = .ok (.ld_A_atHL, []) ∧
    decode [0b01111111] = .ok (.ld_A_A, []) :=
  ⟨rfl, rfl, rfl, rfl, rfl, rfl, rfl, rfl, rfl, rfl, rfl, rfl, rfl, rfl, rfl, rfl⟩

theorem test_decode_primary_8x :
    decode [0b10000000] = .ok (.add_B, []) ∧
    decode [0b10000001] = .ok (.add_C, []) ∧
    decode [0b10000010] = .ok (.add_D, []) ∧
    decode [0b10000011] = .ok (.add_E, []) ∧
    decode [0b10000100] = .ok (.add_H, []) ∧
    decode [0b10000101] = .ok (.add_L, []) ∧
    decode [0b10000110] = .ok (.add_atHL, []) ∧
    decode [0b10000111] = .ok (.add_A, []) ∧
    decode [0b10001000] = .ok (.adc_B, []) ∧
    decode [0b10001001] = .ok (.adc_C, []) ∧
    decode [0b10001010] = .ok (.adc_D, []) ∧
    decode [0b10001011] = .ok (.adc_E, []) ∧
    decode [0b10001100] = .ok (.adc_H, []) ∧
    decode [0b10001101] = .ok (.adc_L, []) ∧
    decode [0b10001110] = .ok (.adc_atHL, []) ∧
    decode [0b10001111] = .ok (.adc_A, []) :=
  ⟨rfl, rfl, rfl, rfl, rfl, rfl, rfl, rfl, rfl, rfl, rfl, rfl, rfl, rfl, rfl, rfl⟩

theorem test_decode_primary_9x :
    decode [0b10010000] = .ok (.sub_B, []) ∧
    decode [0b10010001] = .ok (.sub_C, []) ∧
    decode [0b10010010] = .ok (.sub_D, []) ∧
    decode [0b10010011] = .ok (.sub_E, []) ∧
    decode [0b10010100] = .ok (.sub_H, []) ∧
    decode [0b10010101] = .ok (.sub_L, []) ∧
    decode [0b10010110] = .ok (.sub_atHL, []) ∧
    decode [0b10010111] = .ok (.sub_A, []) ∧
    decode [0b10011000] = .ok (.sbc_B, []) ∧
    decode [0b10011001] = .ok (.sbc_C, []) ∧
    decode [0b10011010] = .ok (.sbc_D, []) ∧
    decode [0b10011011] = .ok (.sbc_E, []) ∧
    decode [0b10011100] = .ok (.sbc_H, []) ∧
    decode [0b10011101] = .ok (.sbc_L, []) ∧
    decode [0b10011110] = .ok (.sbc_atHL, []) ∧
    decode [0b10011111] = .ok (.sbc_A, []) :=
  ⟨rfl, rfl, rfl, rfl, rfl, rfl, rfl, rfl, rfl, rfl, rfl, rfl, rfl, rfl, rfl, rfl⟩

theorem test_decode_primary_ax :
    decode [0b10100000] = .ok (.and_B, []) ∧
    decode [0b10100001] = .ok (.and_C, []) ∧
    decode [0b10100010] = .ok (.and_D, []) ∧
    decode [0b10100011] = .ok (.and_E, []) ∧
    decode [0b10100100] = .ok (.and_H, []) ∧
    decode [0b10100101] = .ok (.and_L, []) ∧
    decode [0b10100110] = .ok (.and_atHL, []) ∧
    decode [0b10100111] = .ok (.and_A, []) ∧
    decode [0b10101000] = .ok (.xor_B, []) ∧
    decode [0b10101001] = .ok (.xor_C, []) ∧
    decode [0b10101010] = .ok (.xor_D, []) ∧
    decode [0b10101011] = .ok (.xor_E, []) ∧
    decode [0b10101100] = .ok (.xor_H, []) ∧
    decode [0b10101101] = .ok (.xor_L, []) ∧
    decode [0b10101110] = .ok (.xor_atHL, []) ∧
    decode [0b10101111] = .ok (.xor_A, []) :=
  ⟨rfl, rfl, rfl, rfl, rfl, rfl, rfl, rfl, rfl, rfl, rfl, rfl, rfl, rfl, rfl, rfl⟩

theorem test_decode_primary_bx :
    decode [0b10110000] = .ok (.or_B, []) ∧
    decode [0b10110001] = .ok (.or_C, []) ∧
    decode [0b10110010] = .ok (.or_D, []) ∧
    decode [0b10110011] = .ok (.or_E, []) ∧
    decode [0b10110100] = .ok (.or_H, []) ∧
    decode [0b10110101] = .ok (.or_L, []) ∧
    decode [0b10110110] = .ok (.or_atHL, []) ∧
    decode [0b10110111] = .ok (.or_A, []) ∧
    decode [0b10111000] = .ok (.cp_B, []) ∧
    decode [0b10111001] = .ok (.cp_C, []) ∧
    decode [0b10111010] = .ok (.cp_D, []) ∧
    decode [0b10111011] = .ok (.cp_E, []) ∧
    decode [0b10111100] = .ok (.cp_H, []) ∧
    decode [0b10111101] = .ok (.cp_L, []) ∧
    decode [0b10111110] = .ok (.cp_atHL, []) ∧
    decode [0b10111111] = .ok (.cp_A, []) :=
  ⟨rfl, rfl, rfl, rfl, rfl, rfl, rfl, rfl, rfl, rfl, rfl, rfl, rfl, rfl, rfl, rfl⟩

theorem test_decode_primary_cx :
    decode [0b11000000] = .ok (.ret_NZ, []) ∧
    decode [0b11000001] = .ok (.pop_BC, []) ∧
    decode [0b11000010, 0b00110100, 0b00010010] = .ok (.jp_NZ_nn 0x1234, []) ∧
    decode [0b11000011, 0b00110100, 0b00010010] = .ok (.jp_nn 0x1234, []) ∧
    decode [0b11000100, 0b00110100, 0b00010010] = .ok (.call_NZ_nn 0x1234, []) ∧
    decode [0b11000101] = .ok (.push_BC, []) ∧
    decode [0b11000110, 0b01011010] = .ok (.add_n 0x5A, []) ∧
    decode [0b11000111] = .ok (.rst_00, []) ∧
    decode [0b11001000] = .ok (.ret_Z, []) ∧
    decode [0b11001001] = .ok (.ret, []) ∧
    decode [0b11001010, 0b00110100, 0b00010010] = .ok (.jp_Z_nn 0x1234, []) ∧
    decode [0b11001011] = .ok (.prefix_CB, []) ∧
    decode [0b11001100, 0b00110100, 0b00010010] = .ok (.call_Z_nn 0x1234, []) ∧
    decode [0b11001101, 0b00110100, 0b00010010] = .ok (.call_nn 0x1234, []) ∧
    decode [0b11001110, 0b01011010] = .ok (.adc_n 0x5A, []) ∧
    decode [0b11001111] = .ok (.rst_08, []) :=
  ⟨rfl, rfl, rfl, rfl, rfl, rfl, rfl, rfl, rfl, rfl, rfl, rfl, rfl, rfl, rfl, rfl⟩

theorem test_decode_primary_dx :
    decode [0b11010000] = .ok (.ret_NC, []) ∧
    decode [0b11010001] = .ok (.pop_DE, []) ∧
    decode [0b11010010, 0b00110100, 0b00010010] = .ok (.jp_NC_nn 0x1234, []) ∧
    decode [0b11010011] = .ok (.undef_D3, []) ∧
    decode [0b11010100, 0b00110100, 0b00010010] = .ok (.call_NC_nn 0x1234, []) ∧
    decode [0b11010101] = .ok (.push_DE, []) ∧
    decode [0b11010110, 0b01011010] = .ok (.sub_n 0x5A, []) ∧
    decode [0b11010111] = .ok (.rst_10, []) ∧
    decode [0b11011000] = .ok (.ret_C, []) ∧
    decode [0b11011001] = .ok (.reti, []) ∧
    decode [0b11011010, 0b00110100, 0b00010010] = .ok (.jp_C_nn 0x1234, []) ∧
    decode [0b11011011] = .ok (.undef_DB, []) ∧
    decode [0b11011100, 0b00110100, 0b00010010] = .ok (.call_C_nn 0x1234, []) ∧
    decode [0b11011101] = .ok (.undef_DD, []) ∧
    decode [0b11011110, 0b01011010] = .ok (.sbc_n 0x5A, []) ∧
    decode [0b11011111] = .ok (.rst_18, []) :=
  ⟨rfl, rfl, rfl, rfl, rfl, rfl, rfl, rfl, rfl, rfl, rfl, rfl, rfl, rfl, rfl, rfl⟩

theorem test_decode_primary_ex :
    decode [0b11100000, 0b01011010] = .ok (.ldh_atN_A 0x5A, []) ∧
    decode [0b11100001] = .ok (.pop_HL, []) ∧
    decode [0b11100010] = .ok (.ld_atC_A, []) ∧
    decode [0b11100011] = .ok (.undef_E3, []) ∧
    decode [0b11100100] = .ok (.undef_E4, []) ∧
    decode [0b11100101] = .ok (.push_HL, []) ∧
    decode [0b11100110, 0b01011010] = .ok (.and_n 0x5A, []) ∧
    decode [0b11100111] = .ok (.rst_20, []) ∧
    decode [0b11101000, 0b10100101] = .ok (.add_SP_e 0xA5, []) ∧
    decode [0b11101001] = .ok (.jp_HL, []) ∧
    decode [0b11101010, 0b00110100, 0b00010010] = .ok (.ld_atNN_A 0x1234, []) ∧
    decode [0b11101011] = .ok (.undef_EB, []) ∧
    decode [0b11101100] = .ok (.undef_EC, []) ∧
    decode [0b11101101] = .ok (.undef_ED, []) ∧
    decode [0b11101110, 0b01011010] = .ok (.xor_n 0x5A, []) ∧
    decode [0b11101111] = .ok (.rst_28, []) :=
  ⟨rfl, rfl, rfl, rfl, rfl, rfl, rfl, rfl, rfl, rfl, rfl, rfl, rfl, rfl, rfl, rfl⟩

theorem test_decode_primary_fx :
    decode [0b11110000, 0b01011010] = .ok (.ldh_A_atN 0x5A, []) ∧
    decode [0b11110001] = .ok (.pop_AF, []) ∧
    decode [0b11110010] = .ok (.ld_A_atC, []) ∧
    decode [0b11110011] = .ok (.di, []) ∧
    decode [0b11110100] = .ok (.undef_F4, []) ∧
    decode [0b11110101] = .ok (.push_AF, []) ∧
    decode [0b11110110, 0b01011010] = .ok (.or_n 0x5A, []) ∧
    decode [0b11110111] = .ok (.rst_30, []) ∧
    decode [0b11111000, 0b10100101] = .ok (.ld_HL_SPe 0xA5, []) ∧
    decode [0b11111001] = .ok (.ld_SP_HL, []) ∧
    decode [0b11111010, 0b00110100, 0b00010010] = .ok (.ld_A_atNN 0x1234, []) ∧
    decode [0b11111011] = .ok (.ei, []) ∧
    decode [0b11111100] = .ok (.undef_FC, []) ∧
    decode [0b11111101] = .ok (.undef_FD, []) ∧
    decode [0b11111110, 0b01011010] = .ok (.cp_n 0x5A, []) ∧
    decode [0b11111111] = .ok (.rst_38, []) :=
  ⟨rfl, rfl, rfl, rfl, rfl, rfl, rfl, rfl, rfl, rfl, rfl, rfl, rfl, rfl, rfl, rfl⟩

theorem test_decode_extended_0x :
    decode [0b11001011, 0b00000000] = .ok (.rlc_B, []) ∧
    decode [0b11001011, 0b00000001] = .ok (.rlc_C, []) ∧
    decode [0b11001011, 0b00000010] = .ok (.rlc_D, []) ∧
    decode [0b11001011, 0b00000011] = .ok (.rlc_E, []) ∧
    decode [0b11001011, 0b00000100] = .ok (.rlc_H, []) ∧
    decode [0b11001011, 0b00000101] = .ok (.rlc_L, []) ∧
    decode [0b11001011, 0b00000110] = .ok (.rlc_atHL, []) ∧
    decode [0b11001011, 0b00000111] = .ok (.rlc_A, []) ∧
    decode [0b11001011, 0b00001000] = .ok (.rrc_B, []) ∧
    decode [0b11001011, 0b00001001] = .ok (.rrc_C, []) ∧
    decode [0b11001011, 0b00001010] = .ok (.rrc_D, []) ∧
    decode [0b11001011, 0b00001011] = .ok (.rrc_E, []) ∧
    decode [0b11001011, 0b00001100] = .ok (.rrc_H, []) ∧
    decode [0b11001011, 0b00001101] = .ok (.rrc_L, []) ∧
    decode [0b11001011, 0b00001110] = .ok (.rrc_atHL, []) ∧
    decode [0b11001011, 0b00001111] = .ok (.rrc_A, []) :=
  ⟨rfl, rfl, rfl, rfl, rfl, rfl, rfl, rfl, rfl, rfl, rfl, rfl, rfl, rfl, rfl, rfl⟩

theorem test_decode_extended_1x :
    decode [0b11001011, 0b00010000] = .ok (.rl_B, []) ∧
    decode [0b11001011, 0b00010001] = .ok (.rl_C, []) ∧
    decode [0b11001011, 0b00010010] = .ok (.rl_D, []) ∧
    decode [0b11001011, 0b00010011] = .ok (.rl_E, []) ∧
    decode [0b11001011, 0b00010100] = .ok (.rl_H, []) ∧
    decode [0b11001011, 0b00010101] = .ok (.rl_L, []) ∧
    decode [0b11001011, 0b00010110] = .ok (.rl_atHL, []) ∧
    decode [0b11001011, 0b00010111] = .ok (.rl_A, []) ∧
    decode [0b11001011, 0b00011000] = .ok (.rr_B, []) ∧
    decode [0b11001011, 0b00011001] = .ok (.rr_C, []) ∧
    decode [0b11001011, 0b00011010] = .ok (.rr_D, []) ∧
    decode [0b11001011, 0b00011011] = .ok (.rr_E, []) ∧
    decode [0b11001011, 0b00011100] = .ok (.rr_H, []) ∧
    decode [0b11001011, 0b00011101] = .ok (.rr_L, []) ∧
    decode [0b11001011, 0b00011110] = .ok (.rr_atHL, []) ∧
    decode [0b11001011, 0b00011111] = .ok (.rr_A, []) :=
  ⟨rfl, rfl, rfl, rfl, rfl, rfl, rfl, rfl, rfl, rfl, rfl, rfl, rfl, rfl, rfl, rfl⟩

theorem test_decode_extended_2x :
    decode [0b11001011, 0b00100000] = .ok (.sla_B, []) ∧
    decode [0b11001011, 0b00100001] = .ok (.sla_C, []) ∧
    decode [0b11001011, 0b00100010] = .ok (.sla_D, []) ∧
    decode [0b11001011, 0b00100011] = .ok (.sla_E, []) ∧
    decode [0b11001011, 0b00100100] = .ok (.sla_H, []) ∧
    decode [0b11001011, 0b00100101] = .ok (.sla_L, []) ∧
    decode [0b11001011, 0b00100110] = .ok (.sla_atHL, []) ∧
    decode [0b11001011, 0b00100111] = .ok (.sla_A, []) ∧
    decode [0b11001011, 0b00101000] = .ok (.sra_B, []) ∧
    decode [0b11001011, 0b00101001] = .ok (.sra_C, []) ∧
    decode [0b11001011, 0b00101010] = .ok (.sra_D, []) ∧
    decode [0b11001011, 0b00101011] = .ok (.sra_E, []) ∧
    decode [0b11001011, 0b00101100] = .ok (.sra_H, []) ∧
    decode [0b11001011, 0b00101101] = .ok (.sra_L, []) ∧
    decode [0b11001011, 0b00101110] = .ok (.sra_atHL, []) ∧
    decode [0b11001011, 0b00101111] = .ok (.sra_A, []) :=
  ⟨rfl, rfl, rfl, rfl, rfl, rfl, rfl, rfl, rfl, rfl, rfl, rfl, rfl, rfl, rfl, rfl⟩

theorem test_decode_extended_3x :
    decode [0b11001011, 0b00110000] = .ok (.swap_B, []) ∧
    decode [0b11001011, 0b00110001] = .ok (.swap_C, []) ∧
    decode [0b11001011, 0b00110010] = .ok (.swap_D, []) ∧
    decode [0b11001011, 0b00110011] = .ok (.swap_E, []) ∧
    decode [0b11001011, 0b00110100] = .ok (.swap_H, []) ∧
    decode [0b11001011, 0b00110101] = .ok (.swap_L, []) ∧
    decode [0b11001011, 0b00110110] = .ok (.swap_atHL, []) ∧
    decode [0b11001011, 0b00110111] = .ok (.swap_A, []) ∧
    decode [0b11001011, 0b00111000] = .ok (.srl_B, []) ∧
    decode [0b11001011, 0b00111001] = .ok (.srl_C, []) ∧
    decode [0b11001011, 0b00111010] = .ok (.srl_D, []) ∧
    decode [0b11001011, 0b00111011] = .ok (.srl_E, []) ∧
    decode [0b11001011, 0b00111100] = .ok (.srl_H, []) ∧
    decode [0b11001011, 0b00111101] = .ok (.srl_L, []) ∧
    decode [0b11001011, 0b00111110] = .ok (.srl_atHL, []) ∧
    decode [0b11001011, 0b00111111] = .ok (.srl_A, []) :=
  ⟨rfl, rfl, rfl, rfl, rfl, rfl, rfl, rfl, rfl, rfl, rfl, rfl, rfl, rfl, rfl, rfl⟩

theorem test_decode_extended_4x :
    decode [0b11001011, 0b01000000] = .ok (.bit_0_B, []) ∧
    decode [0b11001011, 0b01000001] = .ok (.bit_0_C, []) ∧
    decode [0b11001011, 0b01000010] = .ok (.bit_0_D, []) ∧
    decode [0b11001011, 0b01000011] = .ok (.bit_0_E, []) ∧
    decode [0b11001011, 0b01000100] = .ok (.bit_0_H, []) ∧
    decode [0b11001011, 0b01000101] = .ok (.bit_0_L, []) ∧
    decode [0b11001011, 0b01000110] = .ok (.bit_0_atHL, []) ∧
    decode [0b11001011, 0b01000111] = .ok (.bit_0_A, []) ∧
    decode [0b11001011, 0b01001000] = .ok (.bit_1_B, []) ∧
    decode [0b11001011, 0b01001001] = .ok (.bit_1_C, []) ∧
    decode [0b11001011, 0b01001010] = .ok (.bit_1_D, []) ∧
    decode [0b11001011, 0b01001011] = .ok (.bit_1_E, []) ∧
    decode [0b11001011, 0b01001100] = .ok (.bit_1_H, []) ∧
    decode [0b11001011, 0b01001101] = .ok (.bit_1_L, []) ∧
    decode [0b11001011, 0b01001110] = .ok (.bit_1_atHL, []) ∧
    decode [0b11001011, 0b01001111] = .ok (.bit_1_A, []) :=
  ⟨rfl, rfl, rfl, rfl, rfl, rfl, rfl, rfl, rfl, rfl, rfl, rfl, rfl, rfl, rfl, rfl⟩

theorem test_decode_extended_5x :
    decode [0b11001011, 0b01010000] = .ok (.bit_2_B, []) ∧
    decode [0b11001011, 0b01010001] = .ok (.bit_2_C, []) ∧
    decode [0b11001011, 0b01010010] = .ok (.bit_2_D, []) ∧
    decode [0b11001011, 0b01010011] = .ok (.bit_2_E, []) ∧
    decode [0b11001011, 0b01010100] = .ok (.bit_2_H, []) ∧
    decode [0b11001011, 0b01010101] = .ok (.bit_2_L, []) ∧
    decode [0b11001011, 0b01010110] = .ok (.bit_2_atHL, []) ∧
    decode [0b11001011, 0b01010111] = .ok (.bit_2_A, []) ∧
    decode [0b11001011, 0b01011000] = .ok (.bit_3_B, []) ∧
    decode [0b11001011, 0b01011001] = .ok (.bit_3_C, []) ∧
    decode [0b11001011, 0b01011010] = .ok (.bit_3_D, []) ∧
    decode [0b11001011, 0b01011011] = .ok (.bit_3_E, []) ∧
    decode [0b11001011, 0b01011100] = .ok (.bit_3_H, []) ∧
    decode [0b11001011, 0b01011101] = .ok (.bit_3_L, []) ∧
    decode [0b11001011, 0b01011110] = .ok (.bit_3_atHL, []) ∧
    decode [0b11001011, 0b01011111] = .ok (.bit_3_A, []) :=
  ⟨rfl, rfl, rfl, rfl, rfl, rfl, rfl, rfl, rfl, rfl, rfl, rfl, rfl, rfl, rfl, rfl⟩

theorem test_decode_extended_6x :
    decode [0b11001011, 0b01100000] = .ok (.bit_4_B, []) ∧
    decode [0b11001011, 0b01100001] = .ok (.bit_4_C, []) ∧
    decode [0b11001011, 0b01100010] = .ok (.bit_4_D, []) ∧
    decode [0b11001011, 0b01100011] = .ok (.bit_4_E, []) ∧
    decode [0b11001011, 0b01100100] = .ok (.bit_4_H, []) ∧
    decode [0b11001011, 0b01100101] = .ok (.bit_4_L, []) ∧
    decode [0b11001011, 0b01100110] = .ok (.bit_4_atHL, []) ∧
    decode [0b11001011, 0b01100111] = .ok (.bit_4_A, []) ∧
    decode [0b11001011, 0b01101000] = .ok (.bit_5_B, []) ∧
    decode [0b11001011, 0b01101001] = .ok (.bit_5_C, []) ∧
    decode [0b11001011, 0b01101010] = .ok (.bit_5_D, []) ∧
    decode [0b11001011, 0b01101011] = .ok (.bit_5_E, []) ∧
    decode [0b11001011, 0b01101100] = .ok (.bit_5_H, []) ∧
    decode [0b11001011, 0b01101101] = .ok (.bit_5_L, []) ∧
    decode [0b11001011, 0b01101110] = .ok (.bit_5_atHL, []) ∧
    decode [0b11001011, 0b01101111] = .ok (.bit_5_A, []) :=
  ⟨rfl, rfl, rfl, rfl, rfl, rfl, rfl, rfl, rfl, rfl, rfl, rfl, rfl, rfl, rfl, rfl⟩

theorem test_decode_extended_7x :
    decode [0b11001011, 0b01110000] = .ok (.bit_6_B, []) ∧
    decode [0b11001011, 0b01110001] = .ok (.bit_6_C, []) ∧
    decode [0b11001011, 0b01110010] = .ok (.bit_6_D, []) ∧
    decode [0b11001011, 0b01110011] = .ok (.bit_6_E, []) ∧
    decode [0b11001011, 0b01110100] = .ok (.bit_6_H, []) ∧
    decode [0b11001011, 0b01110101] = .ok (.bit_6_L, []) ∧
    decode [0b11001011, 0b01110110] = .ok (.bit_6_atHL, []) ∧
    decode [0b11001011, 0b01110111] = .ok (.bit_6_A, []) ∧
    decode [0b11001011, 0b01111000] = .ok (.bit_7_B, []) ∧
    decode [0b11001011, 0b01111001] = .ok (.bit_7_C, []) ∧
    decode [0b11001011, 0b01111010] = .ok (.bit_7_D, []) ∧
    decode [0b11001011, 0b01111011] = .ok (.bit_7_E, []) ∧
    decode [0b11001011, 0b01111100] = .ok (.bit_7_H, []) ∧
    decode [0b11001011, 0b01111101] = .ok (.bit_7_L, []) ∧
    decode [0b11001011, 0b01111110] = .ok (.bit_7_atHL, []) ∧
    decode [0b11001011, 0b01111111] = .ok (.bit_7_A, []) :=
  ⟨rfl, rfl, rfl, rfl, rfl, rfl, rfl, rfl, rfl, rfl, rfl, rfl, rfl, rfl, rfl, rfl⟩

theorem test_decode_extended_8x :
    decode [0b11001011, 0b10000000] = .ok (.res_0_B, []) ∧
    decode [0b11001011, 0b10000001] = .ok (.res_0_C, []) ∧
    decode [0b11001011, 0b10000010] = .ok (.res_0_D, []) ∧
    decode [0b11001011, 0b10000011] = .ok (.res_0_E, []) ∧
    decode [0b11001011, 0b10000100] = .ok (.res_0_H, []) ∧
    decode [0b11001011, 0b10000101] = .ok (.res_0_L, []) ∧
    decode [0b11001011, 0b10000110] = .ok (.res_0_atHL, []) ∧
    decode [0b11001011, 0b10000111] = .ok (.res_0_A, []) ∧
    decode [0b11001011, 0b10001000] = .ok (.res_1_B, []) ∧
    decode [0b11001011, 0b10001001] = .ok (.res_1_C, []) ∧
    decode [0b11001011, 0b10001010] = .ok (.res_1_D, []) ∧
    decode [0b11001011, 0b10001011] = .ok (.res_1_E, []) ∧
    decode [0b11001011, 0b10001100] = .ok (.res_1_H, []) ∧
    decode [0b11001011, 0b10001101] = .ok (.res_1_L, []) ∧
    decode [0b11001011, 0b10001110] = .ok (.res_1_atHL, []) ∧
    decode [0b11001011, 0b10001111] = .ok (.res_1_A, []) :=
  ⟨rfl, rfl, rfl, rfl, rfl, rfl, rfl, rfl, rfl, rfl, rfl, rfl, rfl, rfl, rfl, rfl⟩

theorem test_decode_extended_9x :
    decode [0b11001011, 0b10010000] = .ok (.res_2_B, []) ∧
    decode [0b11001011, 0b10010001] = .ok (.res_2_C, []) ∧
    decode [0b11001011, 0b10010010] = .ok (.res_2_D, []) ∧
    decode [0b11001011, 0b10010011] = .ok (.res_2_E, []) ∧
    decode [0b11001011, 0b10010100] = .ok (.res_2_H, []) ∧
    decode [0b11001011, 0b10010101] = .ok (.res_2_L, []) ∧
    decode [0b11001011, 0b10010110] = .ok (.res_2_atHL, []) ∧
    decode [0b11001011, 0b10010111] = .ok (.res_2_A, []) ∧
    decode [0b11001011, 0b10011000] = .ok (.res_3_B, []) ∧
    decode [0b11001011, 0b10011001] = .ok (.res_3_C, []) ∧
    decode [0b11001011, 0b10011010] = .ok (.res_3_D, []) ∧
    decode [0b11001011, 0b10011011] = .ok (.res_3_E, []) ∧
    decode [0b11001011, 0b10011100] = .ok (.res_3_H, []) ∧
    decode [0b11001011, 0b10011101] = .ok (.res_3_L, []) ∧
    decode [0b11001011, 0b10011110] = .ok (.res_3_atHL, []) ∧
    decode [0b11001011, 0b10011111] = .ok (.res_3_A, []) :=
  ⟨rfl, rfl, rfl, rfl, rfl, rfl, rfl, rfl, rfl, rfl, rfl, rfl, rfl, rfl, rfl, rfl⟩

theorem test_decode_extended_ax :
    decode [0b11001011, 0b10100000] = .ok (.res_4_B, []) ∧
    decode [0b11001011, 0b10100001] = .ok (.res_4_C, []) ∧
    decode [0b11001011, 0b10100010] = .ok (.res_4_D, []) ∧
    decode [0b11001011, 0b10100011] = .ok (.res_4_E, []) ∧
    decode [0b11001011, 0b10100100] = .ok (.res_4_H, []) ∧
    decode [0b11001011, 0b10100101] = .ok (.res_4_L, []) ∧
    decode [0b11001011, 0b10100110] = .ok (.res_4_atHL, []) ∧
    decode [0b11001011, 0b10100111] = .ok (.res_4_A, []) ∧
    decode [0b11001011, 0b10101000] = .ok (.res_5_B, []) ∧
    decode [0b11001011, 0b10101001] = .ok (.res_5_C, []) ∧
    decode [0b11001011, 0b10101010] = .ok (.res_5_D, []) ∧
    decode [0b11001011, 0b10101011] = .ok (.res_5_E, []) ∧
    decode [0b11001011, 0b10101100] = .ok (.res_5_H, []) ∧
    decode [0b11001011, 0b10101101] = .ok (.res_5_L, []) ∧
    decode [0b11001011, 0b10101110] = .ok (.res_5_atHL, []) ∧
    decode [0b11001011, 0b10101111] = .ok (.res_5_A, []) :=
  ⟨rfl, rfl, rfl, rfl, rfl, rfl, rfl, rfl, rfl, rfl, rfl, rfl, rfl, rfl, rfl, rfl⟩

theorem test_decode_extended_bx :
    decode [0b11001011, 0b10110000] = .ok (.res_6_B, []) ∧
    decode [0b11001011, 0b10110001] = .ok (.res_6_C, []) ∧
    decode [0b11001011, 0b10110010] = .ok (.res_6_D, []) ∧
    decode [0b11001011, 0b10110011] = .ok (.res_6_E, []) ∧
    decode [0b11001011, 0b10110100] = .ok (.res_6_H, []) ∧
    decode [0b11001011, 0b10110101] = .ok (.res_6_L, []) ∧
    decode [0b11001011, 0b10110110] = .ok (.res_6_atHL, []) ∧
    decode [0b11001011, 0b10110111] = .ok (.res_6_A, []) ∧
    decode [0b11001011, 0b10111000] = .ok (.res_7_B, []) ∧
    decode [0b11001011, 0b10111001] = .ok (.res_7_C, []) ∧
    decode [0b11001011, 0b10111010] = .ok (.res_7_D, []) ∧
    decode [0b11001011, 0b10111011] = .ok (.res_7_E, []) ∧
    decode [0b11001011, 0b10111100] = .ok (.res_7_H, []) ∧
    decode [0b11001011, 0b10111101] = .ok (.res_7_L, []) ∧
    decode [0b11001011, 0b10111110] = .ok (.res_7_atHL, []) ∧
    decode [0b11001011, 0b10111111] = .ok (.res_7_A, []) :=
  ⟨rfl, rfl, rfl, rfl, rfl, rfl, rfl, rfl, rfl, rfl, rfl, rfl, rfl, rfl, rfl, rfl⟩

theorem test_decode_extended_cx :
    decode [0b11001011, 0b11000000] = .ok (.set_0_B, []) ∧
    decode [0b11001011, 0b11000001] = .ok (.set_0_C, []) ∧
    decode [0b11001011, 0b11000010] = .ok (.set_0_D, []) ∧
    decode [0b11001011, 0b11000011] = .ok (.set_0_E, []) ∧
    decode [0b11001011, 0b11000100] = .ok (.set_0_H, []) ∧
    decode [0b11001011, 0b11000101] = .ok (.set_0_L, []) ∧
    decode [0b11001011, 0b11000110] = .ok (.set_0_atHL, []) ∧
    decode [0b11001011, 0b11000111] = .ok (.set_0_A, []) ∧
    decode [0b11001011, 0b11001000] = .ok (.set_1_B, []) ∧
    decode [0b11001011, 0b11001001] = .ok (.set_1_C, []) ∧
    decode [0b11001011, 0b11001010] = .ok (.set_1_D, []) ∧
    decode [0b11001011, 0b11001011] = .ok (.set_1_E, []) ∧
    decode [0b11001011, 0b11001100] = .ok (.set_1_H, []) ∧
    decode [0b11001011, 0b11001101] = .ok (.set_1_L, []) ∧
    decode [0b11001011, 0b11001110] = .ok (.set_1_atHL, []) ∧
    decode [0b11001011, 0b11001111] = .ok (.set_1_A, []) :=
  ⟨rfl, rfl, rfl, rfl, rfl, rfl, rfl, rfl, rfl, rfl, rfl, rfl, rfl, rfl, rfl, rfl⟩

theorem test_decode_extended_dx :
    decode [0b11001011, 0b11010000] = .ok (.set_2_B, []) ∧
    decode [0b11001011, 0b11010001] = .ok (.set_2_C, []) ∧
    decode [0b11001011, 0b11010010] = .ok (.set_2_D, []) ∧
    decode [0b11001011, 0b11010011] = .ok (.set_2_E, []) ∧
    decode [0b11001011, 0b11010100] = .ok (.set_2_H, []) ∧
    decode [0b11001011, 0b11010101] = .ok (.set_2_L, []) ∧
    decode [0b11001011, 0b11010110] = .ok (.set_2_atHL, []) ∧
    decode [0b11001011, 0b11010111] = .ok (.set_2_A, []) ∧
    decode [0b11001011, 0b11011000] = .ok (.set_3_B, []) ∧
    decode [0b11001011, 0b11011001] = .ok (.set_3_C, []) ∧
    decode [0b11001011, 0b11011010] = .ok (.set_3_D, []) ∧
    decode [0b11001011, 0b11011011] = .ok (.set_3_E, []) ∧
    decode [0b11001011, 0b11011100] = .ok (.set_3_H, []) ∧
    decode [0b11001011, 0b11011101] = .ok (.set_3_L, []) ∧
    decode [0b11001011, 0b11011110] = .ok (.set_3_atHL, []) ∧
    decode [0b11001011, 0b11011111] = .ok (.set_3_A, []) :=
  ⟨rfl, rfl, rfl, rfl, rfl, rfl, rfl, rfl, rfl, rfl, rfl, rfl, rfl, rfl, rfl, rfl⟩

theorem test_decode_extended_ex :
    decode [0b11001011, 0b11100000] = .ok (.set_4_B, []) ∧
    decode [0b11001011, 0b11100001] = .ok (.set_4_C, []) ∧
    decode [0b11001011, 0b11100010] = .ok (.set_4_D, []) ∧
    decode [0b11001011, 0b11100011] = .ok (.set_4_E, []) ∧
    decode [0b11001011, 0b11100100] = .ok (.set_4_H, []) ∧
    decode [0b11001011, 0b11100101] = .ok (.set_4_L, []) ∧
    decode [0b11001011, 0b11100110] = .ok (.set_4_atHL, []) ∧
    decode [0b11001011, 0b11100111] = .ok (.set_4_A, []) ∧
    decode [0b11001011, 0b11101000] = .ok (.set_5_B, []) ∧
    decode [0b11001011, 0b11101001] = .ok (.set_5_C, []) ∧
    decode [0b11001011, 0b11101010] = .ok (.set_5_D, []) ∧
    decode [0b11001011, 0b11101011] = .ok (.set_5_E, []) ∧
    decode [0b11001011, 0b11101100] = .ok (.set_5_H, []) ∧
    decode [0b11001011, 0b11101101] = .ok (.set_5_L, []) ∧
    decode [0b11001011, 0b11101110] = .ok (.set_5_atHL, []) ∧
    decode [0b11001011, 0b11101111] = .ok (.set_5_A, []) :=
  ⟨rfl, rfl, rfl, rfl, rfl, rfl, rfl, rfl, rfl, rfl, rfl, rfl, rfl, rfl, rfl, rfl⟩

theorem test_decode_extended_fx :
    decode [0b11001011, 0b11110000] = .ok (.set_6_B, []) ∧
    decode [0b11001011, 0b11110001] = .ok (.set_6_C, []) ∧
    decode [0b11001011, 0b11110010] = .ok (.set_6_D, []) ∧
    decode [0b11001011, 0b11110011] = .ok (.set_6_E, []) ∧
    decode [0b11001011, 0b11110100] = .ok (.set_6_H, []) ∧
    decode [0b11001011, 0b11110101] = .ok (.set_6_L, []) ∧
    decode [0b11001011, 0b11110110] = .ok (.set_6_atHL, []) ∧
    decode [0b11001011, 0b11110111] = .ok (.set_6_A, []) ∧
    decode [0b11001011, 0b11111000] = .ok (.set_7_B, []) ∧
    decode [0b11001011, 0b11111001] = .ok (.set_7_C, []) ∧
    decode [0b11001011, 0b11111010] = .ok (.set_7_D, []) ∧
    decode [0b11001011, 0b11111011] = .ok (.set_7_E, []) ∧
    decode [0b11001011, 0b11111100] = .ok (.set_7_H, []) ∧
    decode [0b11001011, 0b11111101] = .ok (.set_7_L, []) ∧
    decode [0b11001011, 0b11111110] = .ok (.set_7_atHL, []) ∧
    decode [0b11001011, 0b11111111] = .ok (.set_7_A, []) :=
  ⟨rfl, rfl, rfl, rfl, rfl, rfl, rfl, rfl, rfl, rfl, rfl, rfl, rfl, rfl, rfl, rfl⟩

theorem test_decode_refuses_missing_bytes :
    decode [] = .error .noBytes ∧ decode [0x3E] = .error (.truncated 0x3E) ∧ decode [0xC3, 0x50] = .error (.truncated 0xC3) :=
  ⟨rfl, rfl, rfl⟩

theorem test_tableWord_numbering :
    decodeTableWord 8 0x3E = some (.ld_A_n 0) ∧ decodeTableWord 16 0x423E = some (.ld_A_n 0x42) ∧
    decodeTableWord 24 0x0150C3 = some (.jp_nn 0x0150) ∧ decodeTableWord 16 0xCB2C = some .sra_H ∧
    decodeTableWord 8 0xCB = some .prefix_CB :=
  ⟨rfl, rfl, rfl, rfl, rfl⟩

/-! ## Instructions: one step from the start state of 95_test_vectors.md -/

/-- The CPU of the start state: all zero, SP 0xDFF0, PC 0xC800. -/
def cpu0 : Cpu := Cpu.atReset { a := 0, flags := 0, b := 0, c := 0, d := 0, e := 0, h := 0, l := 0, sp := 0xDFF0, pc := 0xC800 }

/-- A state with this CPU, code at 0xC800 and cells elsewhere. -/
def load (cpu : Cpu) (code : List Byte) (cells : List (Nat × Byte)) : State :=
  let bus := code.zipIdx.foldl (fun b x => b.place (0xC800 + x.2) x.1) State.reset.bus
  { State.reset with cpu := cpu, bus := cells.foldl (fun b x => b.place x.1 x.2) bus }

/-- A view of the state after one step. -/
def after {α : Type} (s : State) (view : State → α) : Option α :=
  match step s with
  | .next t => some (view t)
  | .fault _ => none
  | .refused _ => none

/-- `[a]`: the byte at an address, ungated. -/
def cell (t : State) (a : Nat) : Byte := t.bus.get a

theorem test_withFetchWord_runs :
    after (State.reset.withFetchWord 16 0x423E) (fun t => (t.cpu.a, t.cpu.pc)) = some (0x42, 0x0102) ∧
    after (State.reset.withFetchWord 16 0xCB37) (fun t => (t.cpu.a, t.cpu.pc)) = some (0x10, 0x0102) := by decide

/-! Section 2.1 -/

theorem test_ld_B_C :
    after (load { cpu0 with b := 0x11, c := 0x22 } [0x41] []) (fun t => (t.cpu.b, t.cpu.c, t.cycles)) = some (0x22, 0x22, 4) := by
  decide

theorem test_ld_atHL_H :
    after (load { cpu0 with h := 0xC1, l := 0x23 } [0x74] []) (fun t => (cell t 0xC123, t.cycles)) = some (0xC1, 8) := by decide

theorem test_ld_A_hole_records :
    after (load cpu0 [0xFA, 0xA0, 0xFE] []) (fun t => (t.cpu.a, t.bus.anomaly, t.cycles))
      = some (0xFF, [.unmappedAddress 0xFEA0 .read], 16) := by decide

theorem test_ld_echo :
    after (load { cpu0 with a := 0x66 } [0xEA, 0x00, 0xE0] []) (fun t => (cell t 0xC000, cell t 0xE000)) = some (0x66, 0x66) := by
  decide

theorem test_ldh_A_ie : after (load cpu0 [0xF0, 0xFF] [(0xFFFF, 0x1F)]) (fun t => (t.cpu.a, t.cycles)) = some (0x1F, 12) := by
  decide

theorem test_ld_atC_A_tma :
    after (load { cpu0 with c := 0x06, a := 0x44 } [0xE2] []) (fun t => t.bus.timer.tma) = some 0x44 := by decide

theorem test_ld_A_HLinc_wraps :
    after (load { cpu0 with h := 0xFF, l := 0xFF } [0x2A] [(0xFFFF, 0x15)]) (fun t => (t.cpu.a, t.cpu.hl)) = some (0x15, 0) := by
  decide

theorem test_ld_HLdec_A :
    after (load { cpu0 with h := 0xC1, a := 0x32 } [0x32] []) (fun t => (cell t 0xC100, t.cpu.hl)) = some (0x32, 0xC0FF) := by
  decide

/-! Section 2.2 -/

theorem test_ld_BC_nn :
    after (load cpu0 [0x01, 0x34, 0x12] []) (fun t => (t.cpu.b, t.cpu.c, t.cycles)) = some (0x12, 0x34, 12) := by decide

theorem test_ld_atNN_SP_wraps :
    after (load { cpu0 with sp := 0x1F0A } [0x08, 0xFF, 0xFF] []) (fun t => (t.bus.ie, cell t 0, t.cycles))
      = some (0x0A, 0x00, 20) := by decide

theorem test_push_AF :
    after (load { cpu0 with a := 0x12, f := 0xF0, sp := 0xD000 } [0xF5] [])
      (fun t => (t.cpu.sp, cell t 0xCFFE, cell t 0xCFFF, t.cycles)) = some (0xCFFE, 0xF0, 0x12, 16) := by decide

theorem test_pop_AF_drops_low_nibble :
    after (load { cpu0 with sp := 0xCFFE } [0xF1] [(0xCFFE, 0xFF), (0xCFFF, 0x12)])
      (fun t => (t.cpu.a, t.cpu.f, t.cpu.sp, t.cycles)) = some (0x12, 0xF0, 0xD000, 12) := by decide

/-! Section 2.3 -/

theorem test_add_carry :
    after (load { cpu0 with a := 0x3A } [0xC6, 0xC6] []) (fun t => (t.cpu.a, t.cpu.f, t.cycles)) = some (0x00, 0xB0, 8) := by
  decide

theorem test_add_ignores_carry_in :
    after (load { cpu0 with f := 0x10 } [0xC6, 0x00] []) (fun t => (t.cpu.a, t.cpu.f)) = some (0x00, 0x80) := by decide

theorem test_adc_half_from_carry_in :
    after (load { cpu0 with a := 0x0F, f := 0x10 } [0xCE, 0x00] []) (fun t => (t.cpu.a, t.cpu.f)) = some (0x10, 0x20) := by decide

theorem test_adc_full_byte :
    after (load { cpu0 with a := 0xFF, f := 0x10 } [0xCE, 0xFF] []) (fun t => (t.cpu.a, t.cpu.f)) = some (0xFF, 0x30) := by decide

theorem test_sub_borrow :
    after (load { cpu0 with a := 0x3E } [0xD6, 0x40] []) (fun t => (t.cpu.a, t.cpu.f)) = some (0xFE, 0x50) := by decide

theorem test_sbc_full_byte :
    after (load { cpu0 with f := 0x10 } [0xDE, 0xFF] []) (fun t => (t.cpu.a, t.cpu.f)) = some (0x00, 0xF0) := by decide

theorem test_sbc_A_A :
    after (load { cpu0 with a := 0x77, f := 0x10 } [0x9F] []) (fun t => (t.cpu.a, t.cpu.f, t.cycles)) = some (0xFF, 0x70, 4) := by
  decide

theorem test_and_sets_half :
    after (load { cpu0 with a := 0x5A, f := 0x10 } [0xE6, 0x3F] []) (fun t => (t.cpu.a, t.cpu.f)) = some (0x1A, 0x20) := by decide

theorem test_xor_A :
    after (load { cpu0 with a := 0x77, f := 0xF0 } [0xAF] []) (fun t => (t.cpu.a, t.cpu.f)) = some (0x00, 0x80) := by decide

theorem test_or :
    after (load { cpu0 with a := 0x5A, f := 0x10 } [0xF6, 0x03] []) (fun t => (t.cpu.a, t.cpu.f)) = some (0x5B, 0x00) := by decide

theorem test_cp_keeps_A :
    after (load { cpu0 with a := 0x3C } [0xFE, 0x2F] []) (fun t => (t.cpu.a, t.cpu.f)) = some (0x3C, 0x60) := by decide

theorem test_add_atHL :
    after (load { cpu0 with a := 0x01, h := 0xC1 } [0x86] [(0xC100, 0xFF)]) (fun t => (t.cpu.a, t.cpu.f, t.cycles))
      = some (0x00, 0xB0, 8) := by decide

/-! Section 2.4 -/

theorem test_inc_keeps_carry :
    after (load { cpu0 with b := 0xFF, f := 0x10 } [0x04] []) (fun t => (t.cpu.b, t.cpu.f, t.cycles)) = some (0x00, 0xB0, 4) := by
  decide

theorem test_dec_half :
    after (load { cpu0 with b := 0x10 } [0x05] []) (fun t => (t.cpu.b, t.cpu.f)) = some (0x0F, 0x60) := by decide

theorem test_dec_atHL :
    after (load { cpu0 with h := 0xC1 } [0x35] []) (fun t => (cell t 0xC100, t.cpu.f, t.cycles)) = some (0xFF, 0x60, 12) := by
  decide

theorem test_daa_after_add :
    after (load { cpu0 with a := 0x9A } [0x27] []) (fun t => (t.cpu.a, t.cpu.f)) = some (0x00, 0x90) := by decide

theorem test_daa_after_sub :
    after (load { cpu0 with a := 0xFF, f := 0x70 } [0x27] []) (fun t => (t.cpu.a, t.cpu.f)) = some (0x99, 0x50) := by decide

theorem test_cpl : after (load { cpu0 with a := 0x35, f := 0x90 } [0x2F] []) (fun t => (t.cpu.a, t.cpu.f)) = some (0xCA, 0xF0) := by
  decide

theorem test_scf : after (load { cpu0 with f := 0xE0 } [0x37] []) (fun t => t.cpu.f) = some 0x90 := by decide

theorem test_ccf : after (load { cpu0 with f := 0xF0 } [0x3F] []) (fun t => t.cpu.f) = some 0x80 := by decide

/-! Section 2.5 -/

theorem test_add_HL_BC_keeps_Z :
    after (load { cpu0 with h := 0x8A, l := 0x23, b := 0x06, c := 0x05, f := 0x80 } [0x09] [])
      (fun t => (t.cpu.hl, t.cpu.f, t.cycles)) = some (0x9028, 0xA0, 8) := by decide

theorem test_inc_BC_wraps :
    after (load { cpu0 with b := 0xFF, c := 0xFF, f := 0xF0 } [0x03] []) (fun t => (t.cpu.bc, t.cpu.f)) = some (0x0000, 0xF0) := by
  decide

theorem test_dec_SP_wraps : after (load { cpu0 with sp := 0 } [0x3B] []) (fun t => t.cpu.sp) = some 0xFFFF := by decide

theorem test_add_SP_unsigned_flags :
    after (load { cpu0 with sp := 0x0001, f := 0xF0 } [0xE8, 0xFF] []) (fun t => (t.cpu.sp, t.cpu.f, t.cycles))
      = some (0x0000, 0x30, 16) := by decide

theorem test_ld_HL_SPe :
    after (load { cpu0 with sp := 0xD000, f := 0xF0 } [0xF8, 0x80] []) (fun t => (t.cpu.hl, t.cpu.sp, t.cpu.f, t.cycles))
      = some (0xCF80, 0xD000, 0x00, 12) := by decide

/-! Section 2.6 -/

theorem test_rla_clears_Z : after (load { cpu0 with a := 0x80, f := 0xE0 } [0x17] []) (fun t => (t.cpu.a, t.cpu.f)) = some (0x00, 0x10) := by
  decide

theorem test_rra : after (load { cpu0 with a := 0x01, f := 0xF0 } [0x1F] []) (fun t => (t.cpu.a, t.cpu.f)) = some (0x80, 0x10) := by decide

theorem test_rlca : after (load { cpu0 with a := 0x85, f := 0xE0 } [0x07] []) (fun t => (t.cpu.a, t.cpu.f)) = some (0x0B, 0x10) := by
  decide

theorem test_rrca : after (load { cpu0 with a := 0x85, f := 0xE0 } [0x0F] []) (fun t => (t.cpu.a, t.cpu.f)) = some (0xC2, 0x10) := by
  decide

theorem test_rlc_B : after (load { cpu0 with b := 0x85 } [0xCB, 0x00] []) (fun t => (t.cpu.b, t.cpu.f, t.cycles)) = some (0x0B, 0x10, 8) := by
  decide

theorem test_rrc_B : after (load { cpu0 with b := 0xF0 } [0xCB, 0x08] []) (fun t => (t.cpu.b, t.cpu.f)) = some (0x78, 0x00) := by decide

theorem test_rl_B : after (load { cpu0 with b := 0x80 } [0xCB, 0x10] []) (fun t => (t.cpu.b, t.cpu.f)) = some (0x00, 0x90) := by decide

theorem test_rr_B : after (load { cpu0 with f := 0x10 } [0xCB, 0x18] []) (fun t => (t.cpu.b, t.cpu.f)) = some (0x80, 0x00) := by decide

theorem test_sla_B : after (load { cpu0 with b := 0x85 } [0xCB, 0x20] []) (fun t => (t.cpu.b, t.cpu.f)) = some (0x0A, 0x10) := by decide

theorem test_sra_B : after (load { cpu0 with b := 0x85 } [0xCB, 0x28] []) (fun t => (t.cpu.b, t.cpu.f)) = some (0xC2, 0x10) := by decide

theorem test_swap_atHL :
    after (load { cpu0 with h := 0xC1, f := 0x10 } [0xCB, 0x36] [(0xC100, 0xA5)]) (fun t => (cell t 0xC100, t.cpu.f, t.cycles))
      = some (0x5A, 0x00, 16) := by decide

theorem test_srl_B : after (load { cpu0 with b := 0x01, f := 0x10 } [0xCB, 0x38] []) (fun t => (t.cpu.b, t.cpu.f)) = some (0x00, 0x90) := by
  decide

theorem test_bit_3_atHL :
    after (load { cpu0 with h := 0xC1, f := 0x10 } [0xCB, 0x5E] [(0xC100, 0x08)]) (fun t => (cell t 0xC100, t.cpu.f, t.cycles))
      = some (0x08, 0x30, 12) := by decide

theorem test_res_7_atHL :
    after (load { cpu0 with h := 0xC1 } [0xCB, 0xBE] [(0xC100, 0xFF)]) (fun t => (cell t 0xC100, t.cycles)) = some (0x7F, 16) := by
  decide

theorem test_set_7_L :
    after (load { cpu0 with f := 0xF0 } [0xCB, 0xFD] []) (fun t => (t.cpu.l, t.cpu.f, t.cycles)) = some (0x80, 0xF0, 8) := by decide

/-! Section 2.7 -/

theorem test_jp_NZ_taken :
    after (load cpu0 [0xC2, 0x34, 0x12] []) (fun t => (t.cpu.pc, t.cycles)) = some (0x1234, 16) := by decide

theorem test_jp_C_not_taken :
    after (load { cpu0 with f := 0xE0 } [0xDA, 0x34, 0x12] []) (fun t => (t.cpu.pc, t.cycles)) = some (0xC803, 12) := by decide

theorem test_jp_HL : after (load { cpu0 with h := 0x40 } [0xE9] []) (fun t => (t.cpu.pc, t.cycles)) = some (0x4000, 4) := by decide

theorem test_jr_backwards : after (load cpu0 [0x18, 0x80] []) (fun t => (t.cpu.pc, t.cycles)) = some (0xC782, 12) := by decide

theorem test_jr_NZ_not_taken :
    after (load { cpu0 with f := 0x80 } [0x20, 0xFC] []) (fun t => (t.cpu.pc, t.cycles)) = some (0xC802, 8) := by decide

theorem test_call_Z_taken :
    after (load { cpu0 with sp := 0xD000, f := 0x80 } [0xCC, 0x00, 0x20] [])
      (fun t => (t.cpu.pc, t.cpu.sp, cell t 0xCFFE, cell t 0xCFFF, t.cycles)) = some (0x2000, 0xCFFE, 0x03, 0xC8, 24) := by decide

theorem test_ret_NC_taken :
    after (load { cpu0 with sp := 0xCFFE } [0xD0] [(0xCFFE, 0x03), (0xCFFF, 0xC8)]) (fun t => (t.cpu.pc, t.cpu.sp, t.cycles))
      = some (0xC803, 0xD000, 20) := by decide

theorem test_reti :
    after (load { cpu0 with sp := 0xCFFE } [0xD9] [(0xCFFE, 0x00), (0xCFFF, 0x02)]) (fun t => (t.cpu.pc, t.cpu.ime, t.cycles))
      = some (0x0200, true, 16) := by decide

theorem test_rst_38 :
    after (load { cpu0 with sp := 0xD000 } [0xFF] []) (fun t => (t.cpu.pc, t.cpu.sp, cell t 0xCFFE, cell t 0xCFFF))
      = some (0x0038, 0xCFFE, 0x01, 0xC8) := by decide

/-! Section 2.8 -/

theorem test_ei_waits :
    after (load cpu0 [0xFB] [(0xFFFF, 0x01), (0xFF0F, 0x01)]) (fun t => (t.cpu.pc, t.cpu.ime, t.cpu.imePending, t.cycles))
      = some (0xC801, false, true, 4) := by decide

theorem test_ei_acts_after_next_instruction :
    after (load { cpu0 with imePending := true } [0x3C] [(0xFFFF, 0x01), (0xFF0F, 0x01)])
      (fun t => (t.cpu.a, t.cpu.ime, t.cpu.imePending, t.cpu.pc)) = some (0x01, true, false, 0xC801) := by decide

theorem test_di_cancels_ei :
    after (load { cpu0 with imePending := true } [0xF3] []) (fun t => (t.cpu.ime, t.cpu.imePending)) = some (false, false) := by
  decide

theorem test_halt : after (load cpu0 [0x76] [(0xFFFF, 0x04)]) (fun t => (t.cpu.halted, t.cpu.pc, t.cycles)) = some (true, 0xC801, 4) := by
  decide

theorem test_halt_wakes_without_dispatch :
    after (load { cpu0 with halted := true } [0x3C] [(0xFFFF, 0x04), (0xFF0F, 0x04)])
      (fun t => (t.cpu.halted, t.cpu.a, t.cpu.pc, t.bus.ifReg)) = some (false, 0x01, 0xC801, 0x04) := by decide

theorem test_stop_skips_its_byte :
    after (load cpu0 [0x10, 0x00] []) (fun t => (t.cpu.stopped, t.cpu.pc, t.cycles)) = some (true, 0xC802, 4) := by decide

set_option maxRecDepth 16000 in
theorem test_stopped_still_dispatches :
    after (load { cpu0 with stopped := true, ime := true } [] [(0xFFFF, 0x04), (0xFF0F, 0x04)])
      (fun t => (t.cpu.stopped, t.cpu.pc, t.bus.ifReg, t.cycles)) = some (true, 0x0050, 0x00, 24) := by decide

theorem test_undefined_opcode :
    after (load cpu0 [0xD3] []) (fun t => (t.bus.anomaly, t.cpu.pc, t.cycles)) = some ([.unknownOpcode 0xD3 0xC800], 0xC801, 4) := by
  decide

/-! Section 2.9 -/

set_option maxRecDepth 16000 in
theorem test_dispatch_lowest_enabled :
    after (load { cpu0 with ime := true } [] [(0xFFFF, 0x14), (0xFF0F, 0xFF)])
      (fun t => (t.cpu.pc, t.bus.ifReg, t.cpu.ime, t.cycles)) = some (0x0051, 0xFB, false, 24) := by decide

set_option maxRecDepth 16000 in
theorem test_dispatch_pushes_pc :
    after (load { cpu0 with ime := true } [] [(0xFFFF, 0x1F), (0xFF0F, 0x1F)])
      (fun t => (t.cpu.sp, cell t 0xDFEE, cell t 0xDFEF, t.bus.ifReg)) = some (0xDFEE, 0x00, 0xC8, 0x1E) := by decide

theorem test_no_dispatch_above_bit_4 :
    after (load { cpu0 with ime := true } [] [(0xFFFF, 0x1F), (0xFF0F, 0xE0)]) (fun t => (t.cpu.pc, t.cpu.ime)) = some (0xC801, true) := by
  decide

/-! ## Peripherals: sections 2.10 to 2.15 -/

/-- The Timer of section 2.10. -/
def timer (tac : BitVec 3) (tima tma : Byte) (div16 : Word) : Timer := { Timer.atReset with tac, tima, tma, div16 }

set_option maxRecDepth 16000 in
theorem test_timer_rate_01 :
    (((timer 5 0 0 0).run 15).tima, ((timer 5 0 0 0).run 16).tima, ((timer 1 0 0 0).run 16).tima) = (0, 1, 0) := by decide

set_option maxRecDepth 16000 in
theorem test_timer_overflow_reloads :
    ((timer 5 0xFE 0xAB 0).run 32).tima = 0xAB ∧ ((timer 5 0xFE 0xAB 0).run 32).req = true ∧
    ((timer 5 0xFE 0xAB 0).run 31).req = false := by decide

/-- The display controller right after it is turned on, at a position. -/
def display (ly : Byte) (lineCycle : Nat) (mode : Byte) : Ppu := { Ppu.atReset [] [] with lcdc := 0x80, stat := mode, ly, lineCycle }

theorem test_display_turned_on : ((Ppu.atReset [] []).write 0xFF40 0x80).read 0xFF41 = 0x02 := by decide

theorem test_display_draw : (display 0 76 2).advance.mode = 3 ∧ (display 0 452 0).advance.ly = 1 ∧ (display 0 452 0).advance.mode = 2 := by
  decide

theorem test_display_vblank :
    (display 143 452 0).advance.vblankReq = false ∧ (display 143 452 0).advance.mode = 1 ∧
    (display 144 0 1).advance.vblankReq = true ∧ (display 153 452 1).advance.ly = 0 := by decide

theorem test_display_coincidence :
    ({ display 2 0 0x42 with lyc := 2 }).advance.stat = 0x46 ∧ ({ display 2 0 0x42 with lyc := 2 }).advance.statReq = true ∧
    ({ display 3 0 0x46 with lyc := 2 }).advance.stat = 0x42 := by decide

theorem test_stat_write : (Ppu.atReset [] []).write 0xFF41 0xFF = { Ppu.atReset [] [] with stat := 0x78 } := by decide

/-- The tiles and the map of section 2.12 that the tests below need. -/
def picture (lcdc : Byte) (oam : Memory) : Ppu :=
  let row (tile : Nat) (lo hi : Byte) (p : Ppu) : Ppu :=
    (List.range 8).foldl (fun p r => (p.set (0x8000 + 16 * tile + 2 * r) lo).set (0x8000 + 16 * tile + 2 * r + 1) hi) p
  let p := row 4 0x00 0xFF (row 3 0xFF 0xFF (row 2 0xFF 0x00 (row 1 0xF0 0xCC { Ppu.atReset [] oam with lcdc, bgp := 0xE4, obp0 := 0xE4 })))
  (p.set 0x9800 1).set 0x9801 2

/-- The shades of the columns from `x` on of line 0. -/
def shades (p : Ppu) (x n : Nat) : List Nat := (List.range n).map fun k => (p.pixel 0 (x + k)).shade.toNat

set_option maxRecDepth 16000 in
theorem test_background_V1 : shades (picture 0x91 []) 0 18 = [3, 3, 1, 1, 2, 2, 0, 0, 1, 1, 1, 1, 1, 1, 1, 1, 0, 0] := by decide

set_option maxRecDepth 16000 in
theorem test_sprites_V8 :
    shades (picture 0x93 [(12, 0x10), (13, 0x0C), (14, 3), (28, 0x10), (29, 0x08), (30, 4)]) 0 14
      = [2, 2, 2, 2, 3, 3, 3, 3, 3, 3, 3, 3, 1, 1] := by decide

set_option maxRecDepth 16000 in
theorem test_sprite_behind_V9 :
    shades (picture 0x93 [(12, 0x10), (13, 0x08), (14, 3), (15, 0x80)]) 0 9 = [3, 3, 1, 1, 2, 2, 3, 3, 1] := by decide

/-- A cartridge of a variant, with a byte that tells each of its banks at the bank's end (section 2.14). -/
def cartOf (variant : Variant) (banks ramSize : Nat) : Cart :=
  Cart.atReset variant banks ((List.range banks).map fun b => (0x4000 * b + 0x3FFF, BitVec.ofNat 8 b)) ramSize []

theorem test_schemeA_bank_0 :
    (((cartOf .schemeA 8 0).write 0x2000 0x00).read 0x7FFF, ((cartOf .schemeA 8 0).write 0x2000 0x07).read 0x7FFF,
      ((cartOf .schemeA 8 0).write 0x2000 0x08).read 0x7FFF) = (1, 7, 0) := by decide

theorem test_schemeA_high_field :
    (((cartOf .schemeA 2 0).write 0x3FFF 0x12).write 0x4000 0x01).romBank = 0x32 := by decide

theorem test_schemeB_nibbles :
    (((cartOf .schemeB 8 512).write 0x0000 0x0A).write 0xA000 0xAB).read 0xA200 = 0xFB ∧
    ((cartOf .schemeB 8 512).write 0x2100 0x1F).romBank = 0x0F := by decide

theorem test_schemeC_clock :
    ((((cartOf .schemeC 4 0x2000).write 0x0000 0x0A).write 0x4000 0x0C).write 0xA123 0xC1).read 0xA000 = 0xC1 ∧
    ((((cartOf .schemeC 4 0x2000).write 0x0000 0x0A).write 0x4000 0x05).write 0xA123 0xC1).read 0xA123 = 0xFF := by decide

/-- The header of an image of section 2.14 (R422). -/
def image (len : Nat) (typeCode romCode ramCode : Byte) : Image :=
  { len, bytes := (logo.zipIdx.map fun x => (0x104 + x.2, x.1)) ++ [(0x147, typeCode), (0x148, romCode), (0x149, ramCode)] }

/-- The error of a construction. -/
def errorOf (img : Image) : Option LoadError :=
  match construct img Config.resetRegs RamInit.empty with
  | .error e => some e
  | .ok _ => none

theorem test_construction_errors :
    errorOf (image 0x8000 0 0 0) = none ∧ errorOf (image 0x14F 0 0 0) = some .size ∧ errorOf (image 0x150 0 0 0) = some .size ∧
    errorOf { len := 0x150, bytes := [] } = some .format ∧ errorOf (image 0x8000 0x04 0 0) = some .unsupported ∧
    errorOf (image 0x8000 0 1 0) = some .size ∧ errorOf (image 0x8000 0 9 0) = some .format ∧
    errorOf (image 0x8000 0 0 4) = none ∧ errorOf (image 0x8000 8 0 4) = some .format := by decide

theorem test_joypad :
    let j := (Joypad.atReset.write 0x20).refresh 0x09
    Joypad.atReset.read = 0x3F ∧ j.read = 0x26 ∧ j.req = true ∧ (({ j with req := false }).refresh 0x19).req = false := by decide

theorem test_dma_blocks_wram :
    after { load { cpu0 with pc := 0x0150 } [] [(0x0150, 0xFA), (0x0152, 0xC0), (0xC000, 0x77)] with
      bus := (load { cpu0 with pc := 0x0150 } [] [(0x0150, 0xFA), (0x0152, 0xC0), (0xC000, 0x77)]).bus.write 0xFF46 0xC1 }
      (fun t => (t.cpu.a, t.bus.ppu.dmaTick)) = some (0xFF, 4) := by decide


/-! ## Witnesses: for each statement with hypotheses, terms that meet them, one for each clause -/

/-- Whether an outcome is a next state. -/
def isNext (o : Result) : Bool :=
  match o with
  | .next _ => true
  | .fault _ => false
  | .refused _ => false

theorem exists_next_of_isNext {o : Result} (h : isNext o = true) : ∃ t, o = .next t := by
  unfold isNext at h
  split at h
  · exact ⟨_, rfl⟩
  all_goals cases h

theorem witness_EncodeThenDecode : WellFormed (.ld_atNN_SP 0xFFFF) ∧ WellFormed .set_7_A := by decide

theorem witness_DecodeThenEncode :
    decode [0xCB] = .ok (.prefix_CB, []) ∧ decode [0xC3, 0x50, 0x01, 0x76] = .ok (.jp_nn 0x0150, [0x76]) := ⟨rfl, rfl⟩

theorem witness_ByteLoads :
    Instr.ld_B_C.form = .ld8 (.reg .b) (.reg .c) ∧ (Instr.ld_A_n 0x42).form = .ld8Imm (.reg .a) 0x42 ∧
    Instr.ld_L_atHL.form = .ld8 (.reg .l) .atHL ∧ Instr.ld_atHL_H.form = .ld8 .atHL (.reg .h) ∧
    (Instr.ld_atHL_n 0xFF).form = .ld8Imm .atHL 0xFF := ⟨rfl, rfl, rfl, rfl, rfl⟩

theorem witness_AccumulatorLoads :
    ∃ i j : Instr, i = .ldh_A_atN 0xFF ∧ j = .ld_A_atNN 0xFFFF ∧ i.form = .loadA (.high 0xFF) ∧ j.form = .loadA (.abs 0xFFFF) :=
  ⟨_, _, rfl, rfl, rfl, rfl⟩

theorem witness_AccumulatorStores :
    ∃ i j : Instr, i = .ldh_atN_A 0xFF ∧ j = .ld_atNN_A 0xFFFF ∧ i.form = .storeA (.high 0xFF) ∧ j.form = .storeA (.abs 0xFFFF) :=
  ⟨_, _, rfl, rfl, rfl, rfl⟩

theorem witness_WordLoads :
    (Instr.ld_SP_nn 0xFFFE).form = .ld16 .sp 0xFFFE ∧ (Instr.ld_BC_nn 0).form = .ld16 .bc 0 := ⟨rfl, rfl⟩

theorem witness_PushAndPop : Instr.push_AF.form = .push .af ∧ Instr.pop_AF.form = .pop .af ∧ Instr.pop_BC.form = .pop .bc :=
  ⟨rfl, rfl, rfl⟩

theorem witness_AccumulatorOperands :
    Instr.adc_E.form = .alu .adc (.r8 (.reg .e)) ∧ Instr.cp_atHL.form = .alu .cp (.r8 .atHL) ∧
    (Instr.add_n 0xFF).form = .alu .add (.imm 0xFF) := ⟨rfl, rfl, rfl⟩

theorem witness_AccumulatorArithmetic :
    Instr.add_A.form = .alu .add (.r8 (.reg .a)) ∧ (Instr.adc_n 0).form = .alu .adc (.imm 0) ∧
    Instr.sub_atHL.form = .alu .sub (.r8 .atHL) ∧ Instr.sbc_B.form = .alu .sbc (.r8 (.reg .b)) ∧
    (Instr.cp_n 0xFF).form = .alu .cp (.imm 0xFF) := ⟨rfl, rfl, rfl, rfl, rfl⟩

theorem witness_AccumulatorLogic :
    Instr.and_L.form = .alu .and (.r8 (.reg .l)) ∧ Instr.xor_atHL.form = .alu .xor (.r8 .atHL) ∧
    (Instr.or_n 0).form = .alu .or (.imm 0) := ⟨rfl, rfl, rfl⟩

theorem witness_ByteIncrements :
    Instr.inc_B.form = .inc8 (.reg .b) ∧ Instr.inc_atHL.form = .inc8 .atHL ∧ Instr.dec_A.form = .dec8 (.reg .a) ∧
    Instr.dec_atHL.form = .dec8 .atHL := ⟨rfl, rfl, rfl, rfl⟩

theorem witness_WordArithmetic :
    Instr.add_HL_SP.form = .addHl .sp ∧ Instr.inc_BC.form = .inc16 .bc ∧ Instr.dec_SP.form = .dec16 .sp := ⟨rfl, rfl, rfl⟩

theorem witness_RotatesAndShifts :
    Instr.rlca.form = .rotA .rlc ∧ Instr.rra.form = .rotA .rr ∧ Instr.srl_A.form = .rot .srl (.reg .a) ∧
    Instr.swap_atHL.form = .rot .swap .atHL := ⟨rfl, rfl, rfl, rfl⟩

theorem witness_BitOperations :
    Instr.bit_0_B.form = .bit 0 (.reg .b) ∧ Instr.bit_7_atHL.form = .bit 7 .atHL ∧ Instr.res_7_A.form = .res 7 (.reg .a) ∧
    Instr.set_0_atHL.form = .set 0 .atHL := ⟨rfl, rfl, rfl, rfl⟩

theorem witness_Jumps :
    (Instr.jp_NZ_nn 0xFFFF).form = .jp (some .nz) 0xFFFF ∧ (Instr.jr_C_e 0x80).form = .jr (some .c) 0x80 ∧
    Cond.nz.holds 0x70 = true ∧ Cond.c.holds 0xE0 = false := ⟨rfl, rfl, rfl, rfl⟩

theorem witness_Calls : (Instr.call_Z_nn 0x2000).form = .call (some .z) 0x2000 ∧ Instr.rst_38.form = .rst 7 := ⟨rfl, rfl⟩

theorem witness_Returns : Instr.ret_NC.form = .ret (some .nc) ∧ Cond.nc.holds 0xE0 = true ∧ Cond.nc.holds 0x10 = false :=
  ⟨rfl, rfl, rfl⟩

theorem witness_UndefinedAndPrefix : Instr.undef_D3.form = .undefined 0xD3 ∧ Instr.undef_FD.form = .undefined 0xFD := ⟨rfl, rfl⟩

/-- `PUSH BC` from SP 0xD000 stores at 0xCFFE and 0xCFFF, which have no alias at 0xE000. -/
def pushing : State := load { cpu0 with sp := 0xD000 } [] []

theorem witness_MemoryFrame :
    (∃ t, exec .push_BC pushing = .next t) ∧
    (∀ a ∈ storedAddrs Instr.push_BC.form pushing, pushing.bus.writeAffects a.toNat (0xE000 : Word).toNat = false) ∧
    storedAddrs Instr.bit_0_atHL.form pushing = [] := by
  refine ⟨exists_next_of_isNext (by decide), ?_, by decide⟩
  rw [show storedAddrs Instr.push_BC.form pushing = [0xCFFE, 0xCFFF] by decide]
  exact List.forall_mem_cons.2 ⟨by decide, List.forall_mem_cons.2 ⟨by decide, by simp⟩⟩

/-- A BUS whose DMA engine runs. -/
def transferring : Bus := State.reset.bus.write 0xFF46 0xC1

theorem witness_CpuAccess :
    (transferring.ppu.dmaActive = true ∧ 0xC000 ≤ (0xC000 : Word).toNat ∧ (0xC000 : Word).toNat ≤ 0xFDFF ∧
      (0xFDFF : Word).toNat ≤ 0xFDFF) ∧
    ¬ (transferring.ppu.dmaActive = true ∧ 0xC000 ≤ (0xFE00 : Word).toNat ∧ (0xFE00 : Word).toNat ≤ 0xFDFF) ∧
    ¬ (0xFEA0 ≤ (0xFE9F : Word).toNat ∧ (0xFE9F : Word).toNat ≤ 0xFEFF) := by decide

theorem witness_StorageReadsBack :
    (State.reset.bus.write 0xDFFF 0x5A).read 0xDFFF = 0x5A ∧ (State.reset.bus.write 0xFDFF 0x5A).read 0xDDFF = 0x5A ∧
    (State.reset.bus.write 0xFF01 0x5A).read 0xFF01 = 0x5A ∧ (State.reset.bus.write 0xFF3F 0x5A).read 0xFF3F = 0x5A ∧
    (State.reset.bus.write 0xFF4C 0x5A).read 0xFF4C = 0x5A ∧ (State.reset.bus.write 0xFFFF 0x5A).read 0xFFFF = 0x5A := by decide

theorem witness_WriteFrame :
    State.reset.bus.writeAffects (0xC000 : Word).toNat (0xC001 : Word).toNat = false ∧
    State.reset.bus.writeAffects (0xFF40 : Word).toNat (0xC001 : Word).toNat = false ∧
    (0xFEA0 ≤ (0xFEA0 : Word).toNat ∧ (0xFEFF : Word).toNat ≤ 0xFEFF) := by decide

theorem witness_DisplayGating :
    (display 0 80 3).mode = 3 ∧ (display 0 80 3).read 0x9FFF = 0xFF ∧ (display 0 0 2).mode = 2 ∧
    (display 0 0 2).read 0xFE9F = 0xFF ∧ (display 0 0 2).read 0x9FFF = 0 := by decide

/-- The state in which the step of a small program fetches: `LD A,0x42`, with nothing pending. -/
def fetching : State := (load { cpu0 with ime := true } [0x3E, 0x42] [(0xFFFF, 0x01)]).beginStep.interruptCheck

theorem witness_StepRunsDecodedInstruction :
    (fetching.cpu.halted = false ∧ fetching.cpu.stopped = false) ∧
    (fetching.bus.memRead fetching.cpu.pc = 0x3E ∧ fetching.bus.memRead (fetching.cpu.pc + 1) = 0x42 ∧
      fetching.bus.memRead (fetching.cpu.pc + 2) = 0) ∧
    decode [0x3E, 0x42, 0] = .ok (.ld_A_n 0x42, [0]) :=
  ⟨by decide, by decide +kernel, rfl⟩

theorem witness_IdleStep :
    (load { cpu0 with halted := true } [] []).beginStep.interruptCheck.cpu.halted = true ∧
    (load { cpu0 with stopped := true, imePending := true } [] []).beginStep.interruptCheck.cpu.stopped = true := by decide

theorem witness_InterruptCheck :
    let s := load { cpu0 with ime := true } [] [(0xFFFF, 0x10), (0xFF0F, 0x1F)]
    (s.cpu.ime = true ∧ (s.bus.ie.getLsbD 4 = true ∧ s.bus.ifReg.getLsbD 4 = true) ∧
      ∀ m, m < 4 → ¬ (s.bus.ie.getLsbD m = true ∧ s.bus.ifReg.getLsbD m = true)) ∧
    State.reset.bus.ie &&& State.reset.bus.ifReg &&& 0x1F = 0 ∧
    (State.reset.cpu.ime = false ∧ s.bus.ie &&& s.bus.ifReg &&& 0x1F ≠ 0) := by decide

theorem witness_MasterEnableLatency :
    let ei := load { cpu0 with imePending := true } [0xF3] []
    let reti := load cpu0 [0xD9] []
    (∃ t, step ei = .next t) ∧ ei.cpu.ime = false ∧ ei.cpu.imePending = true ∧
    ei.beginStep.interruptCheck.fetchInstr.1 = .di ∧
    (∃ t, step reti = .next t ∧ t.cpu.ime = true) ∧ reti.cpu.ime = false ∧ reti.cpu.imePending = false :=
  ⟨⟨_, rfl⟩, rfl, rfl, rfl, ⟨_, rfl, rfl⟩, rfl, rfl⟩

theorem witness_MasterEnableLatency_other : (load { cpu0 with imePending := true } [0x00] []).beginStep.interruptCheck.fetchInstr.1 ≠ .di := by
  decide

theorem witness_StopIsFinal : (load { cpu0 with stopped := true } [] []).cpu.stopped = true ∧ cpu0.ime = false ∧ cpu0.imePending = false :=
  ⟨rfl, rfl, rfl⟩

theorem witness_HaltWithNothingEnabled :
    (load { cpu0 with halted := true } [] [(0xFFFF, 0xE0)]).cpu.halted = true ∧
    (load { cpu0 with halted := true } [] [(0xFFFF, 0xE0)]).bus.ie &&& 0x1F = 0 := by decide

theorem witness_CpuInvariant :
    (∃ t, step State.reset = .next t) ∧ State.reset.cpu.f &&& 0x0F = 0 ∧ State.reset.cpu.ime = false := ⟨⟨_, rfl⟩, by decide, rfl⟩

theorem witness_ArraysInvariant : State.reset.bus.ArraysOk ∧ State.reset.bus.ppu.DmaOk ∧ ∃ t, step State.reset = .next t := by
  refine ⟨?_, by unfold Ppu.DmaOk; decide, _, rfl⟩
  constructor
  case cart => constructor <;> decide
  all_goals decide

theorem witness_DisplayInvariant :
    (display 153 452 1).Ok ∧ State.reset.bus.ppu.Ok ∧ ∃ t, step State.reset = .next t := by
  refine ⟨?_, ?_, _, rfl⟩ <;> constructor
  all_goals first | decide | (unfold Ppu.PositionOk; decide) | (unfold Ppu.ModeOk; decide)

theorem witness_CartridgeInvariant : State.reset.bus.cart.SelectorsOk ∧ ∃ t, step State.reset = .next t := by
  refine ⟨?_, _, rfl⟩
  constructor <;> decide

theorem witness_Anomalies : ∃ t, step (load cpu0 [0xD3] []) = .next t ∧ .unknownOpcode 0xD3 0xC800 ∈ t.bus.anomaly :=
  ⟨_, rfl, by decide⟩

/-- A Scheme-B image of section 2.14, with its zero bytes left out: the canonical form. -/
def canonicalImage : Image :=
  { len := 0x8000, bytes := ((image 0x8000 5 0 0).bytes).filter fun x => x.2 ≠ 0 }

/-- A RAM_INIT with the first and the last cell of every array listed. -/
def someRam : RamInit :=
  { wram := [(0, 1), (0x1FFF, 2)], hram := [(0, 1), (126, 2)], vram := [(0, 1), (0x1FFF, 2)], oam := [(0, 1), (159, 2)]
    cartRam := [(0, 0x5A), (0x7FFF, 0xF0)] }

theorem witness_ResetMeetsInvariants :
    (Memory.wf canonicalImage.len canonicalImage.bytes ∧ Memory.wf Config.wramSize someRam.wram ∧
      Memory.wf Config.hramSize someRam.hram ∧ Memory.wf Config.vramSize someRam.vram ∧
      Memory.wf Config.oamSize someRam.oam ∧ Memory.wf 0x8000 someRam.cartRam) ∧
    ∃ s, construct canonicalImage Config.resetRegs someRam = .ok s :=
  ⟨by decide, _, rfl⟩

theorem witness_Construction :
    let byte (img : Image) (k : Nat) : Byte := Memory.read img.bytes k
    let logoOk (img : Image) := ∀ k, k < 48 → byte img (0x104 + k) = logo.getD k 0
    (image 0x14F 0 0 0).len < 0x150 ∧
    (0x150 ≤ (Image.mk 0x150 []).len ∧ ¬ logoOk ⟨0x150, []⟩) ∧
    (logoOk (image 0x150 0x04 0 0) ∧ variantOf (byte (image 0x150 0x04 0 0) 0x147) = none) ∧
    (logoOk (image 0x8000 0 9 0) ∧ variantOf (byte (image 0x8000 0 9 0) 0x147) = some .romOnly ∧
      8 < (byte (image 0x8000 0 9 0) 0x148).toNat) ∧
    (image 0x8000 0 1 0).len < 0x4000 * (2 * 2 ^ (byte (image 0x8000 0 1 0) 0x148).toNat) ∧
    ramOf (byte (image 0x8000 8 0 4) 0x147) (byte (image 0x8000 8 0 4) 0x149) = none ∧
    (logoOk (image 0x8000 5 0 0) ∧ variantOf (byte (image 0x8000 5 0 0) 0x147) = some .schemeB ∧
      ramOf (byte (image 0x8000 5 0 0) 0x147) (byte (image 0x8000 5 0 0) 0x149) = some 512 ∧
      Memory.wf 0x8000 [(0, 0x5A), (0x7FFF, 0x01)]) := by decide

theorem witness_TimerTick :
    let falls (t : Timer) (sel : Nat) : Prop := 4 ≤ t.tac.toNat ∧ t.div16.getLsbD sel = true ∧ (t.div16 + 1).getLsbD sel = false
    falls (timer 5 0 0 15) 3 ∧ (timer 5 0 0 15).tima ≠ 0xFF ∧ falls (timer 4 0xFF 0 0xFFFF) 9 ∧ (timer 4 0xFF 0 0xFFFF).tima = 0xFF ∧
    ¬ falls (timer 5 0 0 14) 3 := by decide

theorem witness_DividerCounts : (timer 3 0 0 0).tac.getLsbD 2 = false := by decide

theorem witness_DividerWritesHoldCounter :
    15 < [1024, 16, 64, 256].getD ((timer 5 0 0 0).tac.toNat % 4) 0 ∧ 1023 < [1024, 16, 64, 256].getD ((timer 4 0 0 0).tac.toNat % 4) 0 := by
  decide

theorem witness_PositionAdvances : (display 153 452 1).enabled = true ∧ (display 153 452 1).PositionOk := by
  unfold Ppu.PositionOk; decide

theorem witness_DisplayRequests : (display 144 0 1).enabled = true ∧ (display 144 0 1).PositionOk := by
  unfold Ppu.PositionOk; decide

theorem witness_DisplayRegisterWrites :
    ((display 0 80 3).enabled = true ∧ (0x7F : Byte).getLsbD 7 = false) ∧
    ((Ppu.atReset [] []).enabled = false ∧ (0x80 : Byte).getLsbD 7 = true) ∧
    (display 0 80 3).enabled = (0xFF : Byte).getLsbD 7 ∧
    (0xFF40 ≤ 0xFF4B ∧ 0xFF4B ≠ 0xFF41 ∧ 0xFF4B ≠ 0xFF44) := by decide

theorem witness_LineRendered :
    ((display 143 248 3).enabled = true ∧ (display 143 248 3).PositionOk ∧ (display 143 248 3).lineCycle = 248 ∧
      (display 143 248 3).ly.toNat ≤ 143) ∧
    ((display 144 248 1).PositionOk ∧ ¬ ((display 144 248 1).lineCycle = 248 ∧ (display 144 248 1).ly.toNat ≤ 143)) := by
  unfold Ppu.PositionOk; decide

theorem witness_SpritePriority : (picture 0x93 []).lcdc.getLsbD 1 = true := by decide

theorem witness_BackgroundPixel :
    let covers (p : Ppu) (x y : Nat) : Prop := p.lcdc.getLsbD 5 = true ∧ p.wy.toNat ≤ y ∧ p.wx.toNat - 7 ≤ x
    (picture 0x90 []).lcdc.getLsbD 0 = false ∧ ((picture 0xB1 []).lcdc.getLsbD 0 = true ∧ covers (picture 0xB1 []) 0 0) ∧
    ((picture 0x91 []).lcdc.getLsbD 0 = true ∧ ¬ covers (picture 0x91 []) 159 143) := by decide

theorem witness_DmaTransfer : (0x00 : Byte).toNat ≤ 0xFE ∧ (0xFE : Byte).toNat ≤ 0xFE := by decide

theorem witness_SchemeACartridge :
    (cartOf .schemeA 8 0x8000).variant = .schemeA ∧ ((cartOf .schemeA 8 0x8000).write 0x1FFF 0x0A).ramEnable = true ∧
    ((cartOf .schemeA 8 0x8000).write 0x1FFF 0x0A).ramSize ≠ 0 ∧ (cartOf .schemeA 8 0x8000).mode = false ∧
    ((cartOf .schemeA 8 0x8000).write 0x7FFF 1).mode = true ∧ (cartOf .schemeA 8 0).ramSize = 0 := by decide

theorem witness_RomOnlyAndSchemeB :
    (Cart.blank.variant = .romOnly ∧ Cart.blank.ramSize = 0 ∧ (cartOf .romOnly 2 0x2000).ramSize ≠ 0) ∧
    ((cartOf .schemeB 8 512).variant = .schemeB ∧ 0x2000 / 256 % 2 = 0 ∧ 0x3FFF / 256 % 2 = 1 ∧
      ((cartOf .schemeB 8 512).write 0 0x0A).ramEnable = true ∧ (cartOf .schemeB 8 512).ramEnable = false) := by decide

theorem witness_SchemeCCartridge :
    let c := (cartOf .schemeC 4 0x2000).write 0 0x0A
    c.variant = .schemeC ∧ c.ramEnable = true ∧ c.sel.toNat ≤ 3 ∧ c.ramSize ≠ 0 ∧
    (8 ≤ (c.write 0x4000 0x0C).sel.toNat ∧ (c.write 0x4000 0x0C).sel.toNat ≤ 12) ∧
    (¬ (8 ≤ (c.write 0x4000 0x0D).sel.toNat ∧ (c.write 0x4000 0x0D).sel.toNat ≤ 12) ∧ ¬ (c.write 0x4000 0x0D).sel.toNat ≤ 3) := by decide

/-- Every boundary of the regions falls in the clause that the table of R61 gives it. -/
theorem witness_BusRouting :
    [0x0000, 0x7FFF, 0xA000, 0xBFFF].all (fun a => decide (a < 0x8000 ∨ 0xA000 ≤ a ∧ a < 0xC000)) = true ∧
    [0x8000, 0x9FFF, 0xFE00, 0xFE9F].all (fun a => decide (0x8000 ≤ a ∧ a < 0xA000 ∨ 0xFE00 ≤ a ∧ a < 0xFEA0)) = true ∧
    [0xC000, 0xDFFF].all (fun a => decide (0xC000 ≤ a ∧ a < 0xE000)) = true ∧
    [0xE000, 0xFDFF].all (fun a => decide (0xE000 ≤ a ∧ a < 0xFE00)) = true ∧
    [0xFF04, 0xFF07].all (fun a => decide (0xFF04 ≤ a ∧ a ≤ 0xFF07)) = true ∧
    [0xFF40, 0xFF4B].all (fun a => decide (0xFF40 ≤ a ∧ a ≤ 0xFF4B)) = true ∧
    [0xFF01, 0xFF03, 0xFF08, 0xFF0F, 0xFF3F, 0xFF4C, 0xFF7F].all
      (fun a => decide (0xFF01 ≤ a ∧ a ≤ 0xFF03 ∨ 0xFF08 ≤ a ∧ a ≤ 0xFF3F ∨ 0xFF4C ≤ a ∧ a ≤ 0xFF7F)) = true ∧
    [0xFF80, 0xFFFE].all (fun a => decide (0xFF80 ≤ a ∧ a ≤ 0xFFFE)) = true := by decide

/-- An idle DMA engine, a clause of `RequestsMerged`. -/
theorem witness_RequestsMerged : State.reset.bus.ppu.dmaActive = false := rfl

end Sys2Proof.Tests
end

section
/-! SUPPORT. What an instruction adds to the step's cycle count (R300), and from it that every instruction and every step has
a next state. -/

namespace Sys2Proof.Machine

/-! Operands, the fetch and the parts of the step around the instruction: what they do to the cycle count. -/

namespace State

variable (s : State)

@[simp] theorem noteR8_cycles (r : R8) : (s.noteR8 r).cycles = s.cycles := by cases r <;> rfl

@[simp] theorem setR8_cycles (r : R8) (v : Byte) : (s.setR8 r v).cycles = s.cycles := by cases r <;> rfl

@[simp] theorem noteAluSrc_cycles (src : AluSrc) : (s.noteAluSrc src).cycles = s.cycles := by
  cases src with
  | r8 r => exact s.noteR8_cycles r
  | imm n => rfl

@[simp] theorem afterIndirect_cycles (m : Indirect) : (s.afterIndirect m).cycles = s.cycles := by cases m <;> rfl

@[simp] theorem fetchInstr_cycles : s.fetchInstr.2.cycles = s.cycles := by
  unfold fetchInstr
  dsimp only
  split
  · rfl
  · split <;> rfl

@[simp] theorem beginStep_cycles : s.beginStep.cycles = 0 := by
  unfold beginStep
  dsimp only
  split
  · rfl
  · split <;> rfl

@[simp] theorem wake_cycles : s.wake.cycles = s.cycles := by
  unfold wake
  split <;> rfl

@[simp] theorem takeInterrupt_cycles (i : Nat) : (s.takeInterrupt i).cycles = s.cycles + 20 := rfl

/-- The interrupt check costs the one dispatch it can take, or nothing (R300, R308). -/
theorem interruptCheck_cycles : s.interruptCheck.cycles = s.cycles ∨ s.interruptCheck.cycles = s.cycles + 20 := by
  unfold interruptCheck
  dsimp only
  split
  · split <;> simp
  · simp

@[simp] theorem promoteEi_cycles (waited : Bool) : (s.promoteEi waited).cycles = s.cycles := by
  unfold promoteEi
  split <;> rfl

@[simp] theorem advanceBoard_cycles : s.advanceBoard.cycles = s.cycles := rfl

end State

/-- A number of cycles that one instruction or idle step can cost. -/
abbrev IsInstrCost (n : Nat) : Prop := n % 4 = 0 ∧ 4 ≤ n ∧ n ≤ 24

/-- The result is a next state, whose cycle count is that of `s` and the cost of one instruction. -/
def NextAtCost (s : State) (r : Result) : Prop :=
  ∃ t n, r = .next t ∧ t.cycles = s.cycles + n ∧ IsInstrCost n

namespace NextAtCost

/-- The shape of every meaning: changes that cost nothing, then the cost. -/
theorem tick {s u : State} {n : Nat} (hu : u.cycles = s.cycles) (hn : IsInstrCost n) : NextAtCost s (.next (u.tick n)) :=
  ⟨u.tick n, n, rfl, by rw [State.tick_cycles, hu], hn⟩

/-- The shape of a conditional transfer, taken or not. -/
theorem ite {s t u : State} {c : Prop} [Decidable c] (ht : NextAtCost s (.next t)) (hu : NextAtCost s (.next u)) :
    NextAtCost s (.next (if c then t else u)) := by
  split
  · exact ht
  · exact hu

end NextAtCost

/-! The costs that depend on an operand. -/

theorem aluCycles_isInstrCost (src : AluSrc) : IsInstrCost (aluCycles src) := by
  match src with
  | .r8 .atHL => exact (by decide : IsInstrCost Config.cycAluMem)
  | .r8 (.reg _) => exact (by decide : IsInstrCost Config.cycAluReg)
  | .imm _ => exact (by decide : IsInstrCost Config.cycAluImm)

theorem incCycles_isInstrCost (r : R8) : IsInstrCost (incCycles r) := by
  unfold incCycles
  split <;> decide

theorem extCycles_isInstrCost (r : R8) : IsInstrCost (extCycles r) := by
  unfold extCycles
  split <;> decide

theorem accCycles_isInstrCost (m : Indirect) : IsInstrCost (accCycles m) := by
  cases m with
  | abs _ => exact (by decide : IsInstrCost Config.cycLdAccAbs)
  | high _ => exact (by decide : IsInstrCost Config.cycLdAccHigh)
  | bc | de | hlInc | hlDec | highC => exact (by decide : IsInstrCost Config.cycLdAccInd)

/-! The extended table, which 0xCB in the main table runs too (R275). -/

theorem doRot_nextAtCost (op : RotOp) (r : R8) (s : State) : NextAtCost s (doRot op r s) :=
  .tick (by simp) (extCycles_isInstrCost r)

theorem doBit_nextAtCost (b : Nat) (r : R8) (s : State) : NextAtCost s (doBit b r s) :=
  .tick (by simp) (by split <;> decide)

theorem doRes_nextAtCost (b : Nat) (r : R8) (s : State) : NextAtCost s (doRes b r s) :=
  .tick (by simp) (extCycles_isInstrCost r)

theorem doSet_nextAtCost (b : Nat) (r : R8) (s : State) : NextAtCost s (doSet b r s) :=
  .tick (by simp) (extCycles_isInstrCost r)

theorem doExtended_nextAtCost (op2 : Byte) (s : State) : NextAtCost s (doExtended op2 s) := by
  unfold doExtended
  split
  · exact doRot_nextAtCost _ _ s
  · exact doBit_nextAtCost _ _ s
  · exact doRes_nextAtCost _ _ s
  · exact doSet_nextAtCost _ _ s

/-- Every form of instruction has a next state, in every state (R301). -/
theorem execForm_nextAtCost (f : Form) (s : State) : NextAtCost s (execForm f s) := by
  cases f with
  | nop => exact .tick rfl (by decide)
  | halt => exact .tick rfl (by decide)
  | stop _ => exact .tick rfl (by decide)
  | di => exact .tick rfl (by decide)
  | ei => exact .tick (by split <;> rfl) (by decide)
  | prefixCB => exact doExtended_nextAtCost s.fetch8.1 s.fetch8.2
  | undefined _ => exact .tick rfl (by decide)
  | ld8 d src => exact .tick (by simp) (by split <;> decide)
  | ld8Imm d n => exact .tick (by simp) (by split <;> decide)
  | loadA m => exact .tick (by simp) (accCycles_isInstrCost m)
  | storeA m => exact .tick (by simp) (accCycles_isInstrCost m)
  | ld16 _ _ => exact .tick rfl (by decide)
  | ldAbsSp _ => exact .tick rfl (by decide)
  | ldSpHl => exact .tick rfl (by decide)
  | push _ => exact .tick rfl (by decide)
  | pop _ => exact .tick rfl (by decide)
  | alu _ src => exact .tick (by simp) (aluCycles_isInstrCost src)
  | inc8 r => exact .tick (by simp) (incCycles_isInstrCost r)
  | dec8 r => exact .tick (by simp) (incCycles_isInstrCost r)
  | daa => exact .tick rfl (by decide)
  | cpl => exact .tick rfl (by decide)
  | scf => exact .tick rfl (by decide)
  | ccf => exact .tick rfl (by decide)
  | addHl _ => exact .tick rfl (by decide)
  | inc16 _ => exact .tick rfl (by decide)
  | dec16 _ => exact .tick rfl (by decide)
  | addSp _ => exact .tick rfl (by decide)
  | ldHlSp _ => exact .tick rfl (by decide)
  | rotA _ => exact .tick rfl (by decide)
  | rot op r => exact doRot_nextAtCost op r s
  | bit b r => exact doBit_nextAtCost b r s
  | res b r => exact doRes_nextAtCost b r s
  | set b r => exact doSet_nextAtCost b r s
  | jp _ _ => exact .ite (.tick rfl (by decide)) (.tick rfl (by decide))
  | jpHl => exact .tick rfl (by decide)
  | jr _ _ => exact .ite (.tick rfl (by decide)) (.tick rfl (by decide))
  | call _ _ => exact .ite (.tick rfl (by decide)) (.tick rfl (by decide))
  | ret _ => exact .ite (.tick rfl (by split <;> decide)) (.tick rfl (by decide))
  | reti => exact .tick rfl (by decide)
  | rst _ => exact .tick rfl (by decide)

theorem exec_nextAtCost (i : Instr) (s : State) : NextAtCost s (exec i s) :=
  exec_eq_execForm i s ▸ execForm_nextAtCost i.form s

/-- One instruction or an idle step has a next state (R300, R277, R278). -/
theorem runInstr_nextAtCost (s : State) : NextAtCost s s.runInstr := by
  unfold State.runInstr
  split
  · exact .tick rfl (by decide)
  · obtain ⟨t, n, ht, hcycles, hn⟩ := exec_nextAtCost s.fetchInstr.1 s.fetchInstr.2
    exact ⟨t, n, ht, by rw [hcycles, State.fetchInstr_cycles], hn⟩

/-- The converse of `step_cases`: when the instruction has a next state at a count that `PPU.run` accepts (R376), so has the
step. -/
theorem step_eq_next {s u : State} (hu : s.beginStep.interruptCheck.runInstr = .next u) (h4 : u.cycles % 4 = 0) :
    step s = .next (u.promoteEi s.beginStep.interruptCheck.cpu.imePending).advanceBoard := by
  simp [step, hu, State.finishStep, h4]

/-- Every step has a next state; the bound is one dispatch (20) and the dearest instruction (24). -/
theorem step_next_cycles (s : State) : ∃ t, step s = .next t ∧ t.cycles % 4 = 0 ∧ 4 ≤ t.cycles ∧ t.cycles ≤ 44 := by
  obtain ⟨u, n, hu, hcycles, h4, hlo, hhi⟩ := runInstr_nextAtCost s.beginStep.interruptCheck
  have hcheck := s.beginStep.interruptCheck_cycles
  rw [State.beginStep_cycles] at hcheck
  refine ⟨_, step_eq_next hu (by omega), ?_⟩
  rw [State.advanceBoard_cycles, State.promoteEi_cycles]
  omega

/-- Settles O30: each form's meaning is a next state with one of the costs 4 to 24 added, and a step adds at most one dispatch
to it, so that the count is one that `PPU.run` accepts. -/
theorem everyStepHasNext : Obligations.EveryStepHasNext := by
  refine ⟨fun i s => ?_, step_next_cycles⟩
  obtain ⟨t, _, ht, _⟩ := exec_nextAtCost i s
  exact ⟨t, ht⟩

end Sys2Proof.Machine
end

section
/-! SUPPORT. What an instruction and a step do to the flags' low nibble (R23) and to the EI latch, IME with `ime_pending`
(R30, R311), said once; from it the CPU invariant and the latency of EI. -/

namespace Sys2Proof.Machine

/-! The flags: every meaning that writes F writes `flagsOf` of its four flags, or clears the low nibble (R23, R175). -/

theorem flagsOf_lowNibble (z n h c : Bool) : flagsOf z n h c &&& 0x0F = 0 := by
  revert z n h c
  decide

theorem AluOp.compute_lowNibble (op : AluOp) (a s f : Byte) : (op.compute a s f).f &&& 0x0F = 0 := by
  cases op <;> exact flagsOf_lowNibble _ _ _ _

theorem RotOp.compute_lowNibble (op : RotOp) (v f : Byte) : (op.compute v f).f &&& 0x0F = 0 := by
  cases op <;> exact flagsOf_lowNibble _ _ _ _

theorem daaOut_lowNibble (a f : Byte) : (daaOut a f).f &&& 0x0F = 0 := by
  unfold daaOut
  split <;> exact flagsOf_lowNibble _ _ _ _

theorem Cpu.FlagsOk.setStk {c : Cpu} (h : c.FlagsOk) (p : R16Stk) (v : Word) : (c.setStk p v).FlagsOk := by
  cases p with
  | bc | de | hl => exact h
  | af =>
    show loByte v &&& 0xF0 &&& 0x0F = 0
    rw [BitVec.and_assoc]
    exact BitVec.and_zero

/-! The EI latch. -/

/-- IME and `ime_pending` (R30). -/
def Cpu.latch (c : Cpu) : Bool × Bool := (c.ime, c.imePending)

/-- What an instruction of a form makes of IME and `ime_pending` (R259, R273, R274). -/
def latchAfter (f : Form) (l : Bool × Bool) : Bool × Bool :=
  match f with
  | .di => (false, false)
  | .ei => (l.1, !l.1 || l.2)
  | .reti => (true, false)
  | _ => l

/-- What an instruction of the form `f` does to the flags and the latch: it keeps R23, and the latch is `f`'s. -/
structure CpuEffect (f : Form) (c d : Cpu) : Prop where
  flags : c.FlagsOk → d.FlagsOk
  latch : d.latch = latchAfter f c.latch

namespace State

variable (s : State)

@[simp] theorem noteR8_cpu (r : R8) : (s.noteR8 r).cpu = s.cpu := by cases r <;> rfl

@[simp] theorem noteAluSrc_cpu (src : AluSrc) : (s.noteAluSrc src).cpu = s.cpu := by
  cases src with
  | r8 r => exact s.noteR8_cpu r
  | imm n => rfl

@[simp] theorem setR8_f (r : R8) (v : Byte) : (s.setR8 r v).cpu.f = s.cpu.f := by cases r <;> simp
@[simp] theorem setR8_ime (r : R8) (v : Byte) : (s.setR8 r v).cpu.ime = s.cpu.ime := by cases r <;> simp
@[simp] theorem setR8_imePending (r : R8) (v : Byte) : (s.setR8 r v).cpu.imePending = s.cpu.imePending := by cases r <;> simp
@[simp] theorem afterIndirect_f (m : Indirect) : (s.afterIndirect m).cpu.f = s.cpu.f := by cases m <;> rfl
@[simp] theorem afterIndirect_ime (m : Indirect) : (s.afterIndirect m).cpu.ime = s.cpu.ime := by cases m <;> rfl
@[simp] theorem afterIndirect_imePending (m : Indirect) : (s.afterIndirect m).cpu.imePending = s.cpu.imePending := by
  cases m <;> rfl

@[simp] theorem pop16_cpu : s.pop16.2.cpu = { s.cpu with sp := s.cpu.sp + 2 } := rfl

@[simp] theorem beginStep_cpu : s.beginStep.cpu = s.cpu := by
  unfold beginStep
  dsimp only
  split
  · rfl
  · split <;> rfl

theorem fetchInstr_cpu : ∃ pc, s.fetchInstr.2.cpu = { s.cpu with pc := pc } := by
  unfold fetchInstr
  dsimp only
  split
  · exact ⟨_, rfl⟩
  · split <;> exact ⟨_, rfl⟩

theorem wake_cpu : ∃ h, s.wake.cpu = { s.cpu with halted := h } := by
  unfold wake
  split <;> exact ⟨_, rfl⟩

theorem promoteEi_latch (waited : Bool) :
    (s.promoteEi waited).cpu.latch = if waited && s.cpu.imePending then (true, false) else s.cpu.latch := by
  unfold promoteEi
  rw [apply_ite State.cpu, apply_ite Cpu.latch]
  rfl

/-- With IME clear the interrupt check is the wake-up alone (R307, R310). -/
theorem interruptCheck_of_ime_false (h : s.cpu.ime = false) : s.interruptCheck = s.wake := by
  obtain ⟨_, hwake⟩ := s.wake_cpu
  simp [interruptCheck, hwake, h]

/-- The interrupt check is the wake-up, and at most one dispatch after it (R300). -/
theorem interruptCheck_cases : s.interruptCheck = s.wake ∨ ∃ i, s.interruptCheck = s.wake.takeInterrupt i := by
  unfold interruptCheck
  dsimp only
  split
  · split
    · exact .inr ⟨_, rfl⟩
    · exact .inl rfl
  · exact .inl rfl

end State

theorem execForm_prefixCB (s : State) : execForm .prefixCB s = execForm (formOfExtended s.fetch8.1) s.fetch8.2 :=
  doExtended_eq_execForm _ _

theorem formOfExtended_ne_prefixCB (op2 : Byte) : formOfExtended op2 ≠ .prefixCB := by
  unfold formOfExtended
  split <;> exact Form.noConfusion

/-- No instruction of the extended table changes the latch (R126). -/
theorem latchAfter_formOfExtended (op2 : Byte) (l : Bool × Bool) : latchAfter (formOfExtended op2) l = l := by
  unfold formOfExtended
  split <;> rfl

theorem eq_di_of_form : ∀ {i : Instr}, i.form = .di → i = .di
  | .di, _ => rfl

theorem eq_reti_of_form : ∀ {i : Instr}, i.form = .reti → i = .reti
  | .reti, _ => rfl

/-- Every form but 0xCB, whose effect is that of the extended instruction after it. -/
theorem execForm_cpuEffect_of_ne_prefixCB {f : Form} (hf : f ≠ .prefixCB) {s t : State} (h : execForm f s = .next t) :
    CpuEffect f s.cpu t.cpu := by
  cases f with
  | prefixCB => exact absurd rfl hf
  | nop | halt | stop _ | undefined _ | ldAbsSp _ | ldSpHl | push _ | jpHl | rst _ => cases h; exact ⟨id, rfl⟩
  | di | reti => cases h; exact ⟨id, rfl⟩
  | ei =>
    cases h
    refine ⟨fun hs => by split <;> exact hs, ?_⟩
    cases hime : s.cpu.ime <;> cases hp : s.cpu.imePending <;> simp [latchAfter, Cpu.latch, hime, hp]
  | ld8 _ _ | ld8Imm _ _ | res _ _ | set _ _ => cases h; exact ⟨by simp [Cpu.FlagsOk], by simp [latchAfter, Cpu.latch]⟩
  | loadA m | storeA m => cases h; exact ⟨by simp [Cpu.FlagsOk], by simp [latchAfter, Cpu.latch]⟩
  | ld16 _ _ | inc16 _ | dec16 _ => cases h; exact ⟨by simp [Cpu.FlagsOk], by simp [latchAfter, Cpu.latch]⟩
  | pop p => cases h; exact ⟨fun hs => Cpu.FlagsOk.setStk (c := s.pop16.2.cpu) hs p _, by simp [latchAfter, Cpu.latch]⟩
  | alu op _ => cases h; exact ⟨fun _ => op.compute_lowNibble _ _ _, by simp [latchAfter, Cpu.latch]⟩
  | inc8 _ | dec8 _ | bit _ _ => cases h; exact ⟨fun _ => flagsOf_lowNibble _ _ _ _, by simp [latchAfter, Cpu.latch]⟩
  | rot op r => cases h; exact ⟨fun _ => op.compute_lowNibble _ _, by simp [latchAfter, Cpu.latch]⟩
  | daa => cases h; exact ⟨fun _ => daaOut_lowNibble _ _, rfl⟩
  | cpl | scf | ccf | addHl _ | addSp _ | ldHlSp _ | rotA _ => cases h; exact ⟨fun _ => flagsOf_lowNibble _ _ _ _, rfl⟩
  | jp _ _ | jr _ _ | call _ _ | ret _ => cases h; split <;> exact ⟨id, rfl⟩

theorem execForm_cpuEffect {f : Form} {s t : State} (h : execForm f s = .next t) : CpuEffect f s.cpu t.cpu := by
  by_cases hf : f = .prefixCB
  · subst hf
    rw [execForm_prefixCB] at h
    obtain ⟨flags, latch⟩ := execForm_cpuEffect_of_ne_prefixCB (formOfExtended_ne_prefixCB _) h
    exact ⟨flags, by rw [latch, latchAfter_formOfExtended]; rfl⟩
  · exact execForm_cpuEffect_of_ne_prefixCB hf h

/-! The same of the parts of the step. -/

/-- The form that a step runs; an idle step is `NOP` here, for it leaves the flags and the latch alone (R277). -/
def State.runForm (s : State) : Form :=
  if s.cpu.halted || s.cpu.stopped then .nop else s.fetchInstr.1.form

theorem runInstr_cpuEffect {s u : State} (h : s.runInstr = .next u) : CpuEffect s.runForm s.cpu u.cpu := by
  unfold State.runInstr at h
  unfold State.runForm
  split at h
  · next hidle =>
    cases h
    rw [if_pos hidle]
    exact ⟨id, rfl⟩
  · next hidle =>
    obtain ⟨pc, hfetch⟩ := s.fetchInstr_cpu
    obtain ⟨flags, latch⟩ := execForm_cpuEffect (exec_eq_execForm _ _ ▸ h)
    rw [hfetch] at flags latch
    rw [if_neg hidle]
    exact ⟨flags, latch⟩

theorem interruptCheck_flagsOk {s : State} (h : s.cpu.FlagsOk) : s.interruptCheck.cpu.FlagsOk := by
  obtain ⟨_, hwake⟩ := s.wake_cpu
  have hw : s.wake.cpu.FlagsOk := by rw [hwake]; exact h
  rcases s.interruptCheck_cases with e | ⟨i, e⟩ <;> rw [e] <;> exact hw

/-- A dispatch clears IME, so that the invariant of the latch holds after it (R308). -/
theorem interruptCheck_imeOk {s : State} (h : s.cpu.ImeOk) : s.interruptCheck.cpu.ImeOk := by
  obtain ⟨_, hwake⟩ := s.wake_cpu
  rcases s.interruptCheck_cases with e | ⟨i, e⟩ <;> rw [e]
  · rw [hwake]; exact h
  · exact fun hime => absurd hime Bool.false_ne_true

theorem CpuEffect.imeOk {f : Form} {c d : Cpu} (he : CpuEffect f c d) (h : c.ImeOk) : d.ImeOk := by
  have hlatch : (latchAfter f c.latch).1 = true → (latchAfter f c.latch).2 = false := by
    unfold latchAfter
    split
    · simp
    · simp only [Cpu.latch]
      intro hime
      simp [hime, h hime]
    · simp
    · exact h
  rwa [← he.latch] at hlatch

/-- What a step does to IME and `ime_pending`: the instruction's own effect on them as the interrupt check left them, then the
promotion of an EI that waited (R300, R311). -/
theorem step_latch {s t : State} (h : step s = .next t) :
    let u := s.beginStep.interruptCheck
    t.cpu.latch =
      let l := latchAfter u.runForm u.cpu.latch
      if u.cpu.imePending && l.2 then (true, false) else l := by
  obtain ⟨v, hv, -, rfl⟩ := step_cases h
  dsimp only
  rw [← (runInstr_cpuEffect hv).latch]
  exact v.promoteEi_latch _

/-- Settles O37: each part of a step keeps both, an instruction by `execForm_cpuEffect`. -/
theorem cpuInvariant : Obligations.CpuInvariant := by
  intro s t h
  obtain ⟨u, hu, -, rfl⟩ := step_cases h
  have he := runInstr_cpuEffect hu
  show (_ → (u.promoteEi _).cpu.FlagsOk) ∧ (_ → (u.promoteEi _).cpu.ImeOk)
  constructor
  · intro hs
    have hf : u.cpu.FlagsOk := he.flags (interruptCheck_flagsOk (by rwa [State.beginStep_cpu]))
    unfold State.promoteEi
    split <;> exact hf
  · intro hs
    have hi : u.cpu.ImeOk := he.imeOk (interruptCheck_imeOk (by rwa [State.beginStep_cpu]))
    unfold State.promoteEi
    split
    · exact fun _ => rfl
    · exact hi

/-- With IME clear when the step begins, nothing is dispatched and the latch is what it was when the instruction starts. -/
theorem interruptCheck_latch_of_ime_false {s : State} (h : s.cpu.ime = false) :
    s.beginStep.interruptCheck.cpu.latch = (false, s.cpu.imePending) := by
  obtain ⟨_, hwake⟩ := s.beginStep.wake_cpu
  rw [s.beginStep.interruptCheck_of_ime_false (by rwa [State.beginStep_cpu]), hwake, State.beginStep_cpu]
  simp [Cpu.latch, h]

/-- The step runs a form other than `NOP` exactly when it is not idle and fetches an instruction of that form. -/
theorem runForm_eq_iff {s : State} {f : Form} (hf : f ≠ .nop) :
    s.runForm = f ↔ s.cpu.halted = false ∧ s.cpu.stopped = false ∧ s.fetchInstr.1.form = f := by
  unfold State.runForm
  cases s.cpu.halted <;> cases s.cpu.stopped <;> simp [hf.symm]

/-- A waiting EI is promoted, or RETI has set IME already, after every form but `DI` (R311, R313). -/
theorem latchAfter_of_waiting {f : Form} (hf : f ≠ .di) :
    (if (latchAfter f (false, true)).2 then (true, false) else latchAfter f (false, true)) = (true, false) := by
  unfold latchAfter
  split
  · exact absurd rfl hf
  · rfl
  · rfl
  · rfl

/-- Only `RETI` sets IME itself (R259, R311). -/
theorem eq_reti_of_latchAfter {f : Form} (h : (latchAfter f (false, false)).1 = true) : f = .reti := by
  unfold latchAfter at h
  split at h
  · cases h
  · cases h
  · rfl
  · cases h

/-- Settles O33: with IME clear the interrupt check leaves the latch alone, so that `step_latch` gives it from the fetched
instruction's form. -/
theorem masterEnableLatency : Obligations.MasterEnableLatency := by
  refine ⟨fun s t h hime hpending => ?_, fun s t h hime hpending ht => ?_⟩
  all_goals
    have hlatch := step_latch h
    have hu := interruptCheck_latch_of_ime_false hime
    dsimp only at hlatch ⊢
    generalize s.beginStep.interruptCheck = u at hlatch hu ⊢
    have hp : u.cpu.imePending = s.cpu.imePending := congrArg Prod.snd hu
    rw [hu, hp, hpending] at hlatch
  · rw [Bool.true_and] at hlatch
    refine ⟨fun ⟨hhalted, hstopped, hdi⟩ => ?_, fun hdi => ?_⟩
    · have hform : u.runForm = .di := (runForm_eq_iff (by simp)).mpr ⟨hhalted, hstopped, by rw [hdi]; rfl⟩
      rw [hform] at hlatch
      exact Prod.mk.inj hlatch
    · have hform : u.runForm ≠ .di := fun e =>
        have ⟨hhalted, hstopped, hf⟩ := (runForm_eq_iff (by simp)).mp e
        hdi ⟨hhalted, hstopped, eq_di_of_form hf⟩
      rw [latchAfter_of_waiting hform] at hlatch
      exact Prod.mk.inj hlatch
  · have hform : u.runForm = .reti := eq_reti_of_latchAfter ((congrArg Prod.fst hlatch).symm.trans ht)
    obtain ⟨hhalted, hstopped, hf⟩ := (runForm_eq_iff (by simp)).mp hform
    exact ⟨hhalted, hstopped, eq_reti_of_form hf⟩

end Sys2Proof.Machine
end

section
/-! SUPPORT. The arrays and the DMA counter (R38, R39, R41, R42): every operation on the BUS and its components keeps them in
their canonical form, inside their sizes and in range. -/

namespace Sys2Proof.Machine

/-! The cartridge. -/

theorem lowNibble_and_highNibble (v : Byte) : v &&& 0x0F &&& 0xF0 = 0 := by
  rw [BitVec.and_assoc]
  exact BitVec.and_zero

/-- A cell of the cartridge's RAM that the RAM window reaches is inside its size; Scheme-B's 512 cells are its size
(R428, R432). -/
theorem Cart.ramCell_lt {c : Cart} (hb : c.variant = .schemeB → c.ramSize = 512) {a k : Nat} (h : c.ramCell a = some k) :
    k < c.ramSize := by
  have hmod {x : Nat} (h0 : c.ramSize ≠ 0) : x % c.ramSize < c.ramSize := Nat.mod_lt _ (Nat.pos_of_ne_zero h0)
  unfold ramCell bankedCell at h
  cases hv : c.variant <;> simp only [hv] at h <;> split at h
  case romOnly.isFalse h0 => exact Option.some.inj h ▸ hmod h0
  case schemeA.isTrue he => exact Option.some.inj h ▸ hmod (by simpa using (Bool.and_eq_true_iff.mp he).2)
  case schemeB.isTrue => rw [hb hv, ← Option.some.inj h]; exact Nat.mod_lt _ (Nat.succ_pos 511)
  case schemeC.isTrue he => exact Option.some.inj h ▸ hmod (by simpa using (Bool.and_eq_true_iff.mp he).2)
  all_goals cases h

namespace Cart.ArraysOk

variable {c : Cart}

theorem setEnable (h : c.ArraysOk) (v : Byte) : (c.setEnable v).ArraysOk := { h with }

theorem selectA (h : c.ArraysOk) (a : Nat) (v : Byte) : (c.selectA a v).ArraysOk := by
  unfold Cart.selectA
  split
  · exact h.setEnable v
  split
  · exact { h with }
  split
  · split <;> exact { h with }
  · exact { h with }

theorem selectB (h : c.ArraysOk) (a : Nat) (v : Byte) : (c.selectB a v).ArraysOk := by
  unfold Cart.selectB
  split
  · split
    · exact h.setEnable v
    · exact { h with }
  · exact h

theorem selectC (h : c.ArraysOk) (a : Nat) (v : Byte) : (c.selectC a v).ArraysOk := by
  unfold Cart.selectC
  split
  · exact h.setEnable v
  split
  · exact { h with }
  split
  · exact { h with }
  · exact h

/-- A store to a cell of cartridge RAM that holds nibbles only in Scheme-B (R432). -/
theorem store (h : c.ArraysOk) {k : Nat} (hk : k < c.ramSize) {v : Byte} (hv : c.variant = .schemeB → v &&& 0xF0 = 0) :
    Cart.ArraysOk { c with ram := Memory.write c.ram k v } where
  rom := h.rom
  ram := Memory.wf_write k v hk h.ram
  nibbles hb := ⟨(h.nibbles hb).1, Sparse.forall_mem_set 0 k v (hv hb) (h.nibbles hb).2⟩

theorem writeRam (h : c.ArraysOk) (a : Nat) (v : Byte) : (c.writeRam a v).ArraysOk := by
  unfold Cart.writeRam
  split
  · exact { h with }
  split
  · next k hcell =>
    have hk := Cart.ramCell_lt (fun hb => (h.nibbles hb).1) hcell
    split
    · exact h.store hk fun _ => lowNibble_and_highNibble v
    · next hb => exact h.store hk fun e => absurd e hb
  · exact h

theorem write (h : c.ArraysOk) (a : Nat) (v : Byte) : (c.write a v).ArraysOk := by
  unfold Cart.write
  split
  · split
    · exact h
    · exact h.selectA a v
    · exact h.selectB a v
    · exact h.selectC a v
  · exact h.writeRam a v

end Cart.ArraysOk

/-! The display controller with its DMA engine. -/

/-- The part of `Bus.ArraysOk` that speaks of the display controller, with the range of the DMA counter. -/
structure Ppu.ArraysOk (p : Ppu) : Prop where
  vram : Memory.wf Config.vramSize p.vram
  oam : Memory.wf Config.oamSize p.oam
  frame : Sparse.Canonical blankLine Config.screenHeight p.frame
  frameWidth : ∀ x ∈ p.frame, x.2.length = Config.screenWidth
  source : Sparse.Canonical blankSource Config.screenHeight p.source
  sourceWidth : ∀ x ∈ p.source, x.2.length = Config.screenWidth
  dma : p.DmaOk

namespace Ppu.ArraysOk

variable {p : Ppu}

theorem writeLcdc (h : p.ArraysOk) (v : Byte) : (p.writeLcdc v).ArraysOk := by
  unfold Ppu.writeLcdc
  split
  · exact { h with }
  split <;> exact { h with }

/-- A transfer starts at tick 0 (R391). -/
theorem startDma (h : p.ArraysOk) (v : Byte) : (p.startDma v).ArraysOk :=
  { h with dma := ⟨by show 0 ≤ 161; omega, fun _ => by show 0 < 161; omega⟩ }

theorem writeReg (h : p.ArraysOk) (a : Nat) (v : Byte) : (p.writeReg a v).ArraysOk := by
  unfold Ppu.writeReg
  split
  case h_1 => exact h.writeLcdc v
  case h_7 => exact h.startDma v
  all_goals exact { h with }

theorem set (h : p.ArraysOk) (a : Nat) (v : Byte) : (p.set a v).ArraysOk := by
  unfold Ppu.set
  split
  · exact { h with vram := Memory.wf_write _ v (by simp only [Config.vramSize]; omega) h.vram }
  split
  · exact { h with oam := Memory.wf_write _ v (by simp only [Config.oamSize]; omega) h.oam }
  · exact h.writeReg a v

theorem write (h : p.ArraysOk) (a : Nat) (v : Byte) : (p.write a v).ArraysOk := by
  unfold Ppu.write
  split
  · exact h
  · exact h.set a v

theorem setMode (h : p.ArraysOk) (m : BitVec 2) : (p.setMode m).ArraysOk := { h with }

theorem coincidenceCheck (h : p.ArraysOk) : p.coincidenceCheck.ArraysOk := by
  unfold Ppu.coincidenceCheck
  split <;> exact { h with }

theorem nextCycle (h : p.ArraysOk) : p.nextCycle.ArraysOk := by
  unfold Ppu.nextCycle
  dsimp only
  split
  · split
    · exact { h with }
    split <;> exact { h with }
  · exact { h with }

theorem vblankCheck (h : p.ArraysOk) : p.vblankCheck.ArraysOk := by
  unfold Ppu.vblankCheck
  split
  · exact { h with }
  · exact h

/-- A rendered line is one of the 144 and has 160 cells (R381). -/
theorem renderLine (h : p.ArraysOk) {y : Nat} (hy : y < Config.screenHeight) : (p.renderLine y).ArraysOk :=
  { h with
    frame := Sparse.canonical_set blankLine y _ hy h.frame
    frameWidth := Sparse.forall_mem_set blankLine y _ (by simp) h.frameWidth
    source := Sparse.canonical_set blankSource y _ hy h.source
    sourceWidth := Sparse.forall_mem_set blankSource y _ (by simp) h.sourceWidth }

theorem lineModes (h : p.ArraysOk) : p.lineModes.ArraysOk := by
  unfold Ppu.lineModes
  split
  · exact h.setMode 3
  split
  · next hline => exact (h.renderLine (Nat.lt_succ_of_le hline.1)).setMode 0
  · exact h

theorem advance (h : p.ArraysOk) : p.advance.ArraysOk := by
  unfold Ppu.advance
  dsimp only
  split
  · split
    · exact h.nextCycle.coincidenceCheck.vblankCheck.lineModes
    · exact h.nextCycle.vblankCheck.lineModes
  · exact h

end Ppu.ArraysOk

/-! The DMA engine. -/

namespace Bus

variable (b : Bus)

/-- The part of a DMA tick before the end of a transfer is tested: the counter goes up, and from its second tick on a byte is
copied (R392). -/
def dmaTransfer : Bus :=
  let t := b.ppu.dmaTick + 1
  let b := { b with ppu := { b.ppu with dmaTick := t } }
  if 2 ≤ t then b.dmaCopy (t - 2) else b

theorem dmaTick4_of_idle (h : b.ppu.dmaActive = false) : b.dmaTick4 = b := by simp [dmaTick4, h]

theorem dmaTick4_of_active (h : b.ppu.dmaActive = true) :
    b.dmaTick4 = if b.ppu.dmaTick + 1 = Config.dmaTicks
      then { b.dmaTransfer with ppu := { b.dmaTransfer.ppu with dmaActive := false } } else b.dmaTransfer := by
  rw [dmaTick4, if_pos h]
  rfl

theorem dmaTransfer_dmaTick : b.dmaTransfer.ppu.dmaTick = b.ppu.dmaTick + 1 := by
  unfold dmaTransfer
  dsimp only
  split
  · exact congrArg Ppu.dmaTick (note_ppu _ _ _)
  · rfl

theorem ArraysOk.note {b : Bus} (h : b.ArraysOk) (a : Nat) (x : Access) : (b.note a x).ArraysOk := by
  rcases b.note_cases a x with e | ⟨r, -, e⟩ <;> rw [e]
  · exact h
  · exact { h with }

/-- The copy of one of the 160 bytes of a transfer (R392). -/
theorem ArraysOk.dmaCopy {b : Bus} (h : b.ArraysOk) {k : Nat} (hk : k < Config.oamSize) : (b.dmaCopy k).ArraysOk :=
  have hn := h.note (b.ppu.dmaAddr k) .read
  { hn with oam := Memory.wf_write k _ hk hn.oam }

end Bus

/-! The BUS. -/

/-- `Bus.ArraysOk` with the range of the DMA counter, by component. -/
structure Bus.StorageOk (b : Bus) : Prop where
  wram : Memory.wf Config.wramSize b.wram
  hram : Memory.wf Config.hramSize b.hram
  io : Memory.wf Config.ioSlots b.io
  cart : b.cart.ArraysOk
  ppu : b.ppu.ArraysOk

theorem Bus.storageOk_iff (b : Bus) : b.StorageOk ↔ b.ArraysOk ∧ b.ppu.DmaOk :=
  ⟨fun h => ⟨{ h, h.ppu with }, h.ppu.dma⟩, fun ⟨h, dma⟩ => { h with ppu := { h with dma } }⟩

namespace Bus.StorageOk

variable {b : Bus}

theorem record (h : b.StorageOk) (x : Anomaly) : (b.record x).StorageOk := { h with }

theorem ioSlotOf_lt {a : Nat} (h : 0xFF00 ≤ a) (h' : a < 0xFF80) : ioSlotOf a < Config.ioSlots := by
  show a - 0xFF00 < 128
  omega

/-- A write of the CPU reaches a cell inside the array of its region (R61). -/
theorem store (h : b.StorageOk) (a : Nat) (v : Byte) : (b.store a v).StorageOk := by
  have hio (ha : ioSlotOf a < Config.ioSlots) : Memory.wf Config.ioSlots (Memory.write b.io (ioSlotOf a) v) :=
    Memory.wf_write _ v ha h.io
  have hwram {k : Nat} (hk : k < Config.wramSize) : Memory.wf Config.wramSize (Memory.write b.wram k v) :=
    Memory.wf_write k v hk h.wram
  have hbounds := regionOf_bounds a
  unfold Bus.store
  cases hr : regionOf a <;> simp only [hr, Region.Bounds] at hbounds <;> dsimp only
  case rom | cartRam => exact { h with cart := h.cart.write a v }
  case vram | oam => exact { h with ppu := h.ppu.write a v }
  case wram | echo => exact { h with wram := hwram (by simp only [Config.wramSize]; omega) }
  case unmapped => exact h
  case joyp | timer | ioSlot => exact { h with io := hio (ioSlotOf_lt (by omega) (by omega)) }
  case ppuReg =>
    exact { h with ppu := h.ppu.write a v, io := hio (ioSlotOf_lt (by omega) (by omega)) }
  case hram => exact { h with hram := Memory.wf_write _ v (by simp only [Config.hramSize]; omega) h.hram }
  case ie => exact { h with }

theorem memWrite (h : b.StorageOk) (a : Word) (v : Byte) : (b.memWrite a v).StorageOk :=
  b.memWrite_induct (fun _ x h => h.record x) (fun _ a v h => h.store a v) a v h

theorem setIf (h : b.StorageOk) (v : Byte) : (b.setIf v).StorageOk :=
  { h with io := Memory.wf_write _ v (by decide) h.io }

theorem dmaTransfer (h : b.StorageOk) (hactive : b.ppu.dmaActive = true) : b.dmaTransfer.ArraysOk := by
  have hlt := h.ppu.dma.2 hactive
  have hcounted : Bus.ArraysOk { b with ppu := { b.ppu with dmaTick := b.ppu.dmaTick + 1 } } := { h, h.ppu with }
  unfold Bus.dmaTransfer
  dsimp only
  split
  · exact hcounted.dmaCopy (by simp only [Config.oamSize]; omega)
  · exact hcounted

/-- The DMA counter goes up to 161, where the transfer ends (R392). -/
theorem dmaTick4 (h : b.StorageOk) : b.dmaTick4.StorageOk := by
  cases hactive : b.ppu.dmaActive with
  | false => rwa [b.dmaTick4_of_idle hactive]
  | true =>
    have hlt := h.ppu.dma.2 hactive
    have ht := h.dmaTransfer hactive
    rw [b.dmaTick4_of_active hactive, Bus.storageOk_iff]
    split
    · refine ⟨{ ht with }, ?_, fun hfalse => absurd hfalse Bool.false_ne_true⟩
      show b.dmaTransfer.ppu.dmaTick ≤ 161
      rw [b.dmaTransfer_dmaTick]
      omega
    · next hne =>
      simp only [Config.dmaTicks] at hne
      refine ⟨ht, ?_⟩
      unfold Ppu.DmaOk
      rw [b.dmaTransfer_dmaTick]
      omega

theorem tick4 (h : b.StorageOk) : b.tick4.StorageOk :=
  { h.dmaTick4 with ppu := h.dmaTick4.ppu.advance }

theorem merge (h : b.StorageOk) : b.merge.StorageOk :=
  { h with ppu := { h.ppu with }, io := Memory.wf_write _ _ (by decide) h.io }

end Bus.StorageOk

/-- Settles O38: every part of a step keeps the storage in order. -/
theorem arraysInvariant : Obligations.ArraysInvariant := by
  intro s t hs hdma h
  rw [← Bus.storageOk_iff]
  refine step_bus (P := Bus.StorageOk) (fun _ a v h => h.memWrite a v) (fun _ x h => h.record x) (fun _ v h => h.setIf v) ?_ ?_
    (fun _ h => h.tick4) ?_ (fun _ h => h.merge) s t h (s.bus.storageOk_iff.mpr ⟨hs, hdma⟩)
  · exact fun b h => { h with ppu := { h.ppu with } }
  · exact fun b c h => { h with }
  · exact fun b v h => { h with }

end Sys2Proof.Machine
end

section
/-! SUPPORT. The anomaly records (R44, R302): a run from another set of records is the same run, with a set of records that has
grown from it by records the hole of R68 and the undefined opcodes give. -/

namespace Sys2Proof.Machine

/-- The records `m` are the records `l` and more of them, with no unknown register among the new ones (R302). -/
def RecordsGrow (l m : List Anomaly) : Prop :=
  (∀ x ∈ l, x ∈ m) ∧ ∀ a, .unknownRegister a ∈ m → .unknownRegister a ∈ l

namespace RecordsGrow

theorem refl (l : List Anomaly) : RecordsGrow l l := ⟨fun _ h => h, fun _ h => h⟩

theorem trans {l m n : List Anomaly} (h : RecordsGrow l m) (h' : RecordsGrow m n) : RecordsGrow l n :=
  ⟨fun x hx => h'.1 x (h.1 x hx), fun a ha => h.2 a (h'.2 a ha)⟩

theorem recordAnomaly {x : Anomaly} (hx : ∀ a, x ≠ .unknownRegister a) (l : List Anomaly) :
    RecordsGrow l (recordAnomaly l x) := by
  refine ⟨fun y hy => (Bus.mem_recordAnomaly l x y).mpr (.inl hy), fun a ha => ?_⟩
  exact ((Bus.mem_recordAnomaly l x _).mp ha).resolve_right (hx a).symm

end RecordsGrow

/-- The record of an access is never that of an unknown register (R302). -/
theorem accessAnomaly_ne_unknownRegister {a : Nat} {x : Access} {r : Anomaly} (h : accessAnomaly a x = some r) (w : Word) :
    r ≠ .unknownRegister w := by
  by_cases hr : regionOf a = .unmapped
  · simp only [accessAnomaly, hr, Option.some.injEq] at h
    subst h
    exact Anomaly.noConfusion
  · rw [accessAnomaly_eq_none x hr] at h
    cases h

/-! The BUS with other records: no read sees them. -/

namespace Bus

/-- The BUS with the set of records `l`. -/
def withRecords (b : Bus) (l : List Anomaly) : Bus := { b with anomaly := l }

/-- `b'` is `b` but for its records, which have grown from `l`. -/
def SameFrom (l : List Anomaly) (b b' : Bus) : Prop := ∃ m, RecordsGrow l m ∧ b' = b.withRecords m

variable {l : List Anomaly} {b b' : Bus}

namespace SameFrom

theorem refl (l : List Anomaly) (b : Bus) : SameFrom l b (b.withRecords l) := ⟨l, .refl l, rfl⟩

theorem record (h : SameFrom l b b') {x : Anomaly} (hx : ∀ a, x ≠ .unknownRegister a) :
    SameFrom l (b.record x) (b'.record x) := by
  obtain ⟨m, hm, rfl⟩ := h
  exact ⟨_, hm.trans (.recordAnomaly hx m), rfl⟩

theorem note (h : SameFrom l b b') (a : Nat) (x : Access) : SameFrom l (b.note a x) (b'.note a x) := by
  unfold Bus.note
  cases hr : accessAnomaly a x with
  | none => exact h
  | some r => exact h.record (accessAnomaly_ne_unknownRegister hr)

theorem blocks (h : SameFrom l b b') (a : Nat) : b'.blocks a = b.blocks a := by
  obtain ⟨m, -, rfl⟩ := h
  rfl

theorem memRead (h : SameFrom l b b') (a : Word) : b'.memRead a = b.memRead a := by
  obtain ⟨m, -, rfl⟩ := h
  rfl

theorem afterRead (h : SameFrom l b b') (a : Word) : SameFrom l (b.afterRead a) (b'.afterRead a) := by
  unfold Bus.afterRead
  rw [h.blocks]
  split
  · exact h
  · exact h.note _ _

theorem store (h : SameFrom l b b') (a : Nat) (v : Byte) : SameFrom l (b.store a v) (b'.store a v) := by
  obtain ⟨m, hm, rfl⟩ := h
  refine ⟨m, hm, ?_⟩
  unfold Bus.store
  cases regionOf a <;> rfl

theorem memWrite (h : SameFrom l b b') (a : Word) (v : Byte) : SameFrom l (b.memWrite a v) (b'.memWrite a v) := by
  unfold Bus.memWrite Bus.write
  rw [h.blocks]
  split
  · exact h
  · exact (h.store _ _).note _ _

theorem storeOam (h : SameFrom l b b') (k : Nat) (v : Byte) :
    SameFrom l { b with ppu := { b.ppu with oam := Memory.write b.ppu.oam k v } }
      { b' with ppu := { b'.ppu with oam := Memory.write b'.ppu.oam k v } } := by
  obtain ⟨m, hm, rfl⟩ := h
  exact ⟨m, hm, rfl⟩

theorem dmaCopy (h : SameFrom l b b') (k : Nat) : SameFrom l (b.dmaCopy k) (b'.dmaCopy k) := by
  have hn := (h.note (b.ppu.dmaAddr k) .read).storeOam k (b.get (b.ppu.dmaAddr k))
  obtain ⟨m, -, rfl⟩ := h
  exact hn

theorem dmaTransfer (h : SameFrom l b b') : SameFrom l b.dmaTransfer b'.dmaTransfer := by
  obtain ⟨m, hm, rfl⟩ := h
  have hcounted : SameFrom l { b with ppu := { b.ppu with dmaTick := b.ppu.dmaTick + 1 } }
    { b.withRecords m with ppu := { b.ppu with dmaTick := b.ppu.dmaTick + 1 } } := ⟨m, hm, rfl⟩
  show SameFrom l (if 2 ≤ b.ppu.dmaTick + 1 then _ else _) (if 2 ≤ b.ppu.dmaTick + 1 then _ else _)
  split
  · exact hcounted.dmaCopy _
  · exact hcounted

theorem dmaTick4 (h : SameFrom l b b') : SameFrom l b.dmaTick4 b'.dmaTick4 := by
  have ht := h.dmaTransfer
  obtain ⟨m, hm, rfl⟩ := h
  cases hactive : b.ppu.dmaActive with
  | false =>
    rw [dmaTick4_of_idle _ hactive, dmaTick4_of_idle (b.withRecords m) hactive]
    exact ⟨m, hm, rfl⟩
  | true =>
    rw [dmaTick4_of_active _ hactive, dmaTick4_of_active (b.withRecords m) hactive]
    show SameFrom l (if b.ppu.dmaTick + 1 = _ then _ else _) (if b.ppu.dmaTick + 1 = _ then _ else _)
    obtain ⟨n, hn, ht⟩ := ht
    rw [ht]
    split <;> exact ⟨n, hn, rfl⟩

theorem tick4 (h : SameFrom l b b') : SameFrom l b.tick4 b'.tick4 := by
  obtain ⟨m, hm, ht⟩ := h.dmaTick4
  exact ⟨m, hm, by unfold Bus.tick4; rw [ht]; rfl⟩

theorem ppuRun (h : SameFrom l b b') (c : Nat) : SameFrom l (b.ppuRun c) (b'.ppuRun c) := by
  unfold Bus.ppuRun
  generalize c / 4 = n
  induction n generalizing b b' with
  | zero => exact h
  | succ n ih => exact ih h.tick4

theorem refresh (h : SameFrom l b b') (pressed : Byte) :
    SameFrom l { b with joypad := b.joypad.refresh pressed } { b' with joypad := b'.joypad.refresh pressed } := by
  obtain ⟨m, hm, rfl⟩ := h
  exact ⟨m, hm, rfl⟩

theorem merge (h : SameFrom l b b') : SameFrom l b.merge b'.merge := by
  obtain ⟨m, hm, rfl⟩ := h
  exact ⟨m, hm, rfl⟩

end SameFrom

end Bus

/-! The state with other records. -/

namespace State

/-- The state with the set of records `l`. -/
def withRecords (s : State) (l : List Anomaly) : State := s.setBus (s.bus.withRecords l)

/-- `s'` is `s` but for its records, which have grown from `l`. -/
def SameFrom (l : List Anomaly) (s s' : State) : Prop := ∃ m, RecordsGrow l m ∧ s' = s.withRecords m

variable {l : List Anomaly} {s s' : State}

namespace SameFrom

theorem refl (l : List Anomaly) (s : State) : SameFrom l s (s.withRecords l) := ⟨l, .refl l, rfl⟩

theorem bus (h : SameFrom l s s') : Bus.SameFrom l s.bus s'.bus := by
  obtain ⟨m, hm, rfl⟩ := h
  exact ⟨m, hm, rfl⟩

theorem cpu (h : SameFrom l s s') : s'.cpu = s.cpu := by
  obtain ⟨m, -, rfl⟩ := h
  rfl

theorem cycles (h : SameFrom l s s') : s'.cycles = s.cycles := by
  obtain ⟨m, -, rfl⟩ := h
  rfl

theorem setBus (h : SameFrom l s s') {b b' : Bus} (hb : Bus.SameFrom l b b') : SameFrom l (s.setBus b) (s'.setBus b') := by
  obtain ⟨_, -, rfl⟩ := h
  obtain ⟨m, hm, rfl⟩ := hb
  exact ⟨m, hm, rfl⟩

theorem mapCpu (h : SameFrom l s s') (g : Cpu → Cpu) : SameFrom l (s.setCpu (g s.cpu)) (s'.setCpu (g s'.cpu)) := by
  obtain ⟨m, hm, rfl⟩ := h
  exact ⟨m, hm, rfl⟩

theorem tick (h : SameFrom l s s') (n : Nat) : SameFrom l (s.tick n) (s'.tick n) := by
  obtain ⟨m, hm, rfl⟩ := h
  exact ⟨m, hm, rfl⟩

theorem setPc (h : SameFrom l s s') (v : Word) : SameFrom l (s.setPc v) (s'.setPc v) := h.mapCpu ({ · with pc := v })

theorem setSp (h : SameFrom l s s') (v : Word) : SameFrom l (s.setSp v) (s'.setSp v) := h.mapCpu ({ · with sp := v })

theorem setA (h : SameFrom l s s') (v : Byte) : SameFrom l (s.setA v) (s'.setA v) := h.mapCpu ({ · with a := v })

theorem setF (h : SameFrom l s s') (v : Byte) : SameFrom l (s.setF v) (s'.setF v) := h.mapCpu ({ · with f := v })

theorem noteRead (h : SameFrom l s s') (a : Word) : SameFrom l (s.noteRead a) (s'.noteRead a) :=
  h.setBus (h.bus.afterRead a)

theorem write (h : SameFrom l s s') (a : Word) (v : Byte) : SameFrom l (s.write a v) (s'.write a v) :=
  h.setBus (h.bus.memWrite a v)

theorem write16 (h : SameFrom l s s') (a v : Word) : SameFrom l (s.write16 a v) (s'.write16 a v) :=
  (h.write _ _).write _ _

theorem push16 (h : SameFrom l s s') (v : Word) : SameFrom l (s.push16 v) (s'.push16 v) := by
  unfold State.push16
  rw [h.cpu]
  exact (h.setSp _).write16 _ v

theorem noteR8 (h : SameFrom l s s') (r : R8) : SameFrom l (s.noteR8 r) (s'.noteR8 r) := by
  cases r with
  | reg q => exact h
  | atHL =>
    show SameFrom l (s.noteRead s.cpu.hl) (s'.noteRead s'.cpu.hl)
    rw [h.cpu]
    exact h.noteRead _

theorem setR8 (h : SameFrom l s s') (r : R8) (v : Byte) : SameFrom l (s.setR8 r v) (s'.setR8 r v) := by
  cases r with
  | reg q => exact h.mapCpu (·.setReg q v)
  | atHL =>
    show SameFrom l (s.write s.cpu.hl v) (s'.write s'.cpu.hl v)
    rw [h.cpu]
    exact h.write _ v

theorem noteAluSrc (h : SameFrom l s s') (src : AluSrc) : SameFrom l (s.noteAluSrc src) (s'.noteAluSrc src) := by
  cases src with
  | r8 r => exact h.noteR8 r
  | imm n => exact h

theorem afterIndirect (h : SameFrom l s s') (m : Indirect) : SameFrom l (s.afterIndirect m) (s'.afterIndirect m) := by
  cases m with
  | hlInc => exact h.mapCpu fun c => c.setHl (c.hl + 1)
  | hlDec => exact h.mapCpu fun c => c.setHl (c.hl - 1)
  | bc | de | abs _ | high _ | highC => exact h

theorem pop16_fst (h : SameFrom l s s') : s'.pop16.1 = s.pop16.1 := by
  simp [State.pop16, State.read16, State.read, h.cpu, h.bus.memRead]

theorem pop16_snd (h : SameFrom l s s') : SameFrom l s.pop16.2 s'.pop16.2 := by
  unfold State.pop16 State.read16
  rw [h.cpu]
  exact ((h.noteRead _).noteRead _).setSp _

theorem call (h : SameFrom l s s') (v : Word) : SameFrom l (s.call v) (s'.call v) := by
  unfold State.call
  rw [h.cpu]
  exact (h.push16 _).setPc v

theorem ret (h : SameFrom l s s') : SameFrom l s.ret s'.ret := by
  unfold State.ret
  rw [h.pop16_fst]
  exact h.pop16_snd.setPc _

theorem fetch8_fst (h : SameFrom l s s') : s'.fetch8.1 = s.fetch8.1 := by
  simp [State.fetch8, State.read, h.cpu, h.bus.memRead]

theorem fetch8_snd (h : SameFrom l s s') : SameFrom l s.fetch8.2 s'.fetch8.2 := by
  unfold State.fetch8
  rw [h.cpu]
  exact (h.noteRead _).setPc _

theorem ite {c : Prop} [Decidable c] {t t' : State} (h : SameFrom l s s') (ht : SameFrom l t t') :
    SameFrom l (if c then s else t) (if c then s' else t') := by
  split
  · exact h
  · exact ht

end SameFrom

end State

/-- Both results are next states, `r'` that of `r` but for its records. -/
def NextSameFrom (l : List Anomaly) (r r' : Result) : Prop :=
  ∃ t t', r = .next t ∧ r' = .next t' ∧ t.SameFrom l t'

theorem NextSameFrom.next {l : List Anomaly} {t t' : State} (h : t.SameFrom l t') : NextSameFrom l (.next t) (.next t') :=
  ⟨t, t', rfl, rfl, h⟩

/-- What holds from every set of records holds of states that are the same but for the records. -/
theorem State.SameFrom.trans_next {l : List Anomaly} {s s' : State} {g : State → Result} (h : s.SameFrom l s')
    (hg : ∀ m, NextSameFrom m (g s) (g (s.withRecords m))) : NextSameFrom l (g s) (g s') := by
  obtain ⟨m, hm, rfl⟩ := h
  obtain ⟨t, t', ht, ht', n, hn, rfl⟩ := hg m
  exact ⟨t, _, ht, ht', n, hm.trans hn, rfl⟩

/-- Every form but 0xCB, which runs the extended table (R275). -/
theorem execForm_sameFrom_of_ne_prefixCB {f : Form} (hf : f ≠ .prefixCB) (l : List Anomaly) (s : State) :
    NextSameFrom l (execForm f s) (execForm f (s.withRecords l)) := by
  have hs : s.SameFrom l (s.withRecords l) := .refl l s
  cases f with
  | prefixCB => exact absurd rfl hf
  | nop | jpHl | di | halt | stop _ | ld16 _ _ | ldSpHl | daa | cpl | scf | ccf | addHl _ | inc16 _ | dec16 _ | addSp _ | ldHlSp _
  | rotA _ => exact .next ⟨l, .refl l, rfl⟩
  | ei => exact .next (.tick (.ite ⟨l, .refl l, rfl⟩ hs) _)
  | undefined op => exact .next (.tick (hs.setBus (hs.bus.record fun _ => Anomaly.noConfusion)) _)
  | ld8 d src => exact .next (.tick ((hs.noteR8 src).setR8 d _) _)
  | ld8Imm d n => exact .next ((hs.setR8 d n).tick _)
  | loadA m => exact .next ((((hs.noteRead _).setA _).afterIndirect m).tick _)
  | storeA m => exact .next (((hs.write _ _).afterIndirect m).tick _)
  | ldAbsSp nn => exact .next ((hs.write16 nn _).tick _)
  | push p => exact .next ((hs.push16 _).tick _)
  | pop p =>
    show NextSameFrom l (doPop p s) (doPop p (s.withRecords l))
    unfold doPop
    rw [hs.pop16_fst]
    exact .next ((hs.pop16_snd.mapCpu (·.setStk p _)).tick _)
  | alu op src => exact .next ((((hs.noteAluSrc src).setA _).setF _).tick _)
  | inc8 r => exact .next ((((hs.noteR8 r).setR8 r _).setF _).tick _)
  | dec8 r => exact .next ((((hs.noteR8 r).setR8 r _).setF _).tick _)
  | rot op r => exact .next ((((hs.noteR8 r).setR8 r _).setF _).tick _)
  | bit b r => exact .next (((hs.noteR8 r).setF _).tick _)
  | res b r => exact .next (((hs.noteR8 r).setR8 r _).tick _)
  | set b r => exact .next (((hs.noteR8 r).setR8 r _).tick _)
  | jp _ _ => exact .next (.ite ((hs.setPc _).tick _) (hs.tick _))
  | jr _ _ => exact .next (.ite ((hs.setPc _).tick _) (hs.tick _))
  | call _ _ => exact .next (.ite ((hs.call _).tick _) (hs.tick _))
  | ret _ => exact .next (.ite (hs.ret.tick _) (hs.tick _))
  | reti => exact .next ((hs.ret.mapCpu ({ · with ime := true, imePending := false })).tick _)
  | rst _ => exact .next ((hs.call _).tick _)

theorem execForm_sameFrom {l : List Anomaly} {s s' : State} (h : s.SameFrom l s') (f : Form) :
    NextSameFrom l (execForm f s) (execForm f s') := by
  by_cases hf : f = .prefixCB
  · subst hf
    rw [execForm_prefixCB, execForm_prefixCB, h.fetch8_fst]
    exact h.fetch8_snd.trans_next (execForm_sameFrom_of_ne_prefixCB (formOfExtended_ne_prefixCB _) · _)
  · exact h.trans_next (execForm_sameFrom_of_ne_prefixCB hf · s)

/-! The parts of the step. -/

namespace State.SameFrom

variable {l : List Anomaly} {s s' : State}

/-- The bytes fetched are the same: the reads before them have left at most records (R81). -/
theorem fetchInstr_fst (h : SameFrom l s s') : s'.fetchInstr.1 = s.fetchInstr.1 := by
  simp only [State.fetchInstr, h.fetch8_fst, h.fetch8_snd.fetch8_fst, h.fetch8_snd.fetch8_snd.fetch8_fst,
    apply_ite Prod.fst]

theorem fetchInstr_snd (h : SameFrom l s s') : SameFrom l s.fetchInstr.2 s'.fetchInstr.2 := by
  simp only [State.fetchInstr, h.fetch8_fst, apply_ite Prod.snd]
  exact .ite h.fetch8_snd (.ite h.fetch8_snd.fetch8_snd h.fetch8_snd.fetch8_snd.fetch8_snd)

theorem runInstr (h : SameFrom l s s') : NextSameFrom l s.runInstr s'.runInstr := by
  unfold State.runInstr
  rw [h.cpu, h.fetchInstr_fst, exec_eq_execForm, exec_eq_execForm]
  split
  · exact .next (h.tick _)
  · exact execForm_sameFrom h.fetchInstr_snd _

theorem beginStep (h : SameFrom l s s') : SameFrom l s.beginStep s'.beginStep := by
  obtain ⟨m, hm, rfl⟩ := h
  obtain ⟨cpu, bus, cycles, inputs⟩ := s
  cases inputs with
  | nil => exact ⟨m, hm, rfl⟩
  | cons i inputs => exact .ite ⟨m, hm, rfl⟩ ⟨m, hm, rfl⟩

theorem wake (h : SameFrom l s s') : SameFrom l s.wake s'.wake := by
  obtain ⟨m, hm, rfl⟩ := h
  exact .ite (c := (s.cpu.halted && s.bus.pending ≠ 0) = true) ⟨m, hm, rfl⟩ ⟨m, hm, rfl⟩

theorem clearIf (h : SameFrom l s s') (i : Nat) : SameFrom l (s.clearIf i) (s'.clearIf i) := by
  obtain ⟨m, hm, rfl⟩ := h
  exact ⟨m, hm, rfl⟩

theorem takeInterrupt (h : SameFrom l s s') (i : Nat) : SameFrom l (s.takeInterrupt i) (s'.takeInterrupt i) := by
  have hpush := (h.clearIf i).push16 s.cpu.pc
  obtain ⟨m, -, rfl⟩ := h
  exact (hpush.mapCpu ({ · with pc := vector i, ime := false })).tick _

theorem interruptCheck (h : SameFrom l s s') : SameFrom l s.interruptCheck s'.interruptCheck := by
  have hpending : s'.bus.pending = s.bus.pending := by
    obtain ⟨m, -, rfl⟩ := h
    rfl
  unfold State.interruptCheck
  dsimp only
  rw [h.wake.cpu, hpending]
  refine .ite ?_ h.wake
  cases leastPending s.bus.pending with
  | none => exact h.wake
  | some i => exact h.wake.takeInterrupt i

theorem promoteEi (h : SameFrom l s s') (waited : Bool) : SameFrom l (s.promoteEi waited) (s'.promoteEi waited) := by
  obtain ⟨m, hm, rfl⟩ := h
  exact .ite (c := (waited && s.cpu.imePending) = true) ⟨m, hm, rfl⟩ ⟨m, hm, rfl⟩

theorem advanceBoard (h : SameFrom l s s') : SameFrom l s.advanceBoard s'.advanceBoard := by
  obtain ⟨m, hm, rfl⟩ := h
  have htimer : Bus.SameFrom l { s.bus with timer := s.bus.timer.run s.cycles }
    { s.bus.withRecords m with timer := s.bus.timer.run s.cycles } := ⟨m, hm, rfl⟩
  obtain ⟨n, hn, hbus⟩ : Bus.SameFrom l s.advanceBoard.bus (s.withRecords m).advanceBoard.bus :=
    ((htimer.ppuRun s.cycles).refresh s.pressed).merge
  refine ⟨n, hn, ?_⟩
  show ({ s.advanceBoard with bus := (s.withRecords m).advanceBoard.bus } : State) = _
  rw [hbus]
  rfl

end State.SameFrom

/-- A step from a state with other records is the same step, but for the records. -/
theorem step_sameFrom {s t : State} (h : step s = .next t) (l : List Anomaly) :
    ∃ t', step (s.withRecords l) = .next t' ∧ t.SameFrom l t' := by
  obtain ⟨u, hu, hcycles, rfl⟩ := step_cases h
  have hs := (State.SameFrom.refl l s).beginStep.interruptCheck
  obtain ⟨v, u', hv, hu', hsame⟩ := hs.runInstr
  obtain rfl : u = v := Host.Outcome.next.inj (hu.symm.trans hv)
  rw [State.promoteEi_cycles, ← hsame.cycles] at hcycles
  refine ⟨_, step_eq_next hu' hcycles, ?_⟩
  rw [hs.cpu]
  exact (hsame.promoteEi _).advanceBoard

/-- Settles O41: from its own records a state's step is the step itself, whence its records have grown; from any other the step is
the same but for the records. -/
theorem anomalies : Obligations.Anomalies := by
  refine ⟨fun s t h => ?_, fun s t l h => ?_⟩
  · obtain ⟨t', ht', m, hm, rfl⟩ := step_sameFrom h s.bus.anomaly
    have ht : t = t.withRecords m := Host.Outcome.next.inj (h.symm.trans ht')
    rw [ht]
    exact hm
  · obtain ⟨t', ht', m, -, rfl⟩ := step_sameFrom h l
    exact ⟨m, ht'⟩

end Sys2Proof.Machine
end

section
/-! SUPPORT. The state after reset and what construction gives (R50, R422, R436): the reset values, and that they meet the
invariants. -/

namespace Sys2Proof.Machine

/-! The CPU and the display after reset, for every cartridge and every value of RESET and RAM_INIT. -/

theorem Cpu.atReset_flagsOk (r : Config.ResetRegs) : (Cpu.atReset r).FlagsOk := by
  show (r.flags ++ (0#4) : Byte) &&& 0x0F = 0
  generalize r.flags = flags
  revert flags
  decide

theorem Cpu.atReset_imeOk (r : Config.ResetRegs) : (Cpu.atReset r).ImeOk := fun h => absurd h Bool.false_ne_true

namespace Ppu

variable (vram oam : Memory)

/-- After reset the display is disabled in mode 0 at the start of the frame (R50, R377). -/
theorem atReset_ok : (Ppu.atReset vram oam).Ok where
  position := ⟨Nat.zero_le _, Nat.succ_pos 455, rfl⟩
  mode := by
    show (0 : Byte).extractLsb' 0 2 = if (0 : Byte).getLsbD 7 then modeAt (0 : Byte).toNat 0 else 0
    decide
  statBit7 := BitVec.getLsbD_zero

theorem atReset_dmaOk : (Ppu.atReset vram oam).DmaOk := ⟨Nat.zero_le _, fun h => absurd h Bool.false_ne_true⟩

end Ppu

/-! The arrays and the selectors of a cartridge that construction accepts. -/

theorem Cart.atReset_selectorsOk (v : Variant) (banks : Nat) (rom : Memory) (size : Nat) (ram : Memory) :
    (Cart.atReset v banks rom size ram).SelectorsOk where
  bank := (by decide : (1 : BitVec 7) ≠ 0)
  schemeA _ := (by decide : (1 : BitVec 7).extractLsb' 0 5 ≠ 0)
  schemeB _ := (by decide : (1 : BitVec 7).toNat < 16)

/-- Scheme-B has 512 cells of RAM, whatever the header says (R426). -/
theorem ramOf_schemeB {typeCode ramCode : Byte} (h : variantOf typeCode = some .schemeB) : ramOf typeCode ramCode = some 512 := by
  have hcode : typeCode.toNat = 0x05 ∨ typeCode.toNat = 0x06 := by
    unfold variantOf at h
    split at h <;> simp_all
  have hheader : ramFromHeader typeCode = false := by
    rcases hcode with e | e <;> simp [ramFromHeader, e]
  simp [ramOf, hheader, h]

/-- RAM_INIT's cells inside the size, those of Scheme-B cut to nibbles, are in canonical form (R432). -/
theorem Cart.initialRam_wf (v : Variant) (size : Nat) {n : Nat} {init : Memory} (h : Memory.wf n init) :
    Memory.wf size (Cart.initialRam v size init) := by
  have hr : Memory.wf size (Memory.restrict size init) := Memory.wf_restrict h
  cases v with
  | schemeB =>
    have hmap : ((Memory.restrict size init).map fun c => (c.1, c.2 &&& 0x0F)).Pairwise fun x y => x.1 < y.1 :=
      List.pairwise_map.mpr hr.1
    refine ⟨hmap.filter _, fun x hx => ?_⟩
    obtain ⟨hmem, hne⟩ := List.mem_filter.mp hx
    obtain ⟨y, hy, rfl⟩ := List.mem_map.mp hmem
    exact ⟨(hr.2 y hy).1, of_decide_eq_true hne⟩
  | romOnly | schemeA | schemeC => exact hr

theorem Cart.initialRam_nibbles (size : Nat) (init : Memory) :
    ∀ x ∈ Cart.initialRam .schemeB size init, x.2 &&& 0xF0 = 0 := by
  intro x hx
  obtain ⟨y, -, rfl⟩ := List.mem_map.mp (List.mem_of_mem_filter hx)
  exact lowNibble_and_highNibble y.2

/-- What a construction that succeeds gives (R422). -/
theorem Cart.construct_ok {img : Image} {init : Memory} {c : Cart} (h : Cart.construct img init = .ok c) :
    ∃ v banks size, variantOf (Memory.read img.bytes 0x0147) = some v ∧
      ramOf (Memory.read img.bytes 0x0147) (Memory.read img.bytes 0x0149) = some size ∧
      c = Cart.atReset v banks (Memory.restrict (Config.romBankSize * banks) img.bytes) size (Cart.initialRam v size init) := by
  unfold Cart.construct at h
  split at h
  · cases h
  split at h
  · cases h
  cases hv : variantOf (Memory.read img.bytes 0x0147) with
  | none => simp [hv] at h
  | some v =>
    cases hb : banksOf (Memory.read img.bytes 0x0148) with
    | none => simp [hv, hb] at h
    | some banks =>
      simp only [hv, hb] at h
      split at h
      · cases h
      cases hs : ramOf (Memory.read img.bytes 0x0147) (Memory.read img.bytes 0x0149) with
      | none => simp [hs] at h
      | some size =>
        simp only [hs, Except.ok.injEq] at h
        exact ⟨v, banks, size, rfl, rfl, h.symm⟩

theorem Cart.construct_arraysOk {img : Image} {n : Nat} {init : Memory} {c : Cart} (himg : Memory.wf img.len img.bytes)
    (hinit : Memory.wf n init) (h : Cart.construct img init = .ok c) : c.ArraysOk ∧ c.SelectorsOk := by
  obtain ⟨v, banks, size, hv, hs, rfl⟩ := Cart.construct_ok h
  refine ⟨{ rom := Memory.wf_restrict himg, ram := Cart.initialRam_wf v size hinit, nibbles := ?_ },
    Cart.atReset_selectorsOk v banks _ size _⟩
  rintro (rfl : v = .schemeB)
  rw [ramOf_schemeB hv] at hs
  cases hs
  exact ⟨rfl, Cart.initialRam_nibbles 512 init⟩

/-- The arrays after reset, from those of RAM_INIT and the cartridge. -/
theorem State.atReset_arraysOk {cart : Cart} (r : Config.ResetRegs) {m : RamInit} (hcart : cart.ArraysOk)
    (hwram : Memory.wf Config.wramSize m.wram) (hhram : Memory.wf Config.hramSize m.hram)
    (hvram : Memory.wf Config.vramSize m.vram) (hoam : Memory.wf Config.oamSize m.oam) :
    (State.atReset cart r m).bus.ArraysOk where
  wram := hwram
  hram := hhram
  io := Memory.wf_nil _
  vram := hvram
  oam := hoam
  cart := hcart
  frame := Sparse.canonical_nil _ _
  frameWidth := by simp [State.atReset, Ppu.atReset]
  source := Sparse.canonical_nil _ _
  sourceWidth := by simp [State.atReset, Ppu.atReset]

theorem Cart.blank_arraysOk : Cart.blank.ArraysOk where
  rom := Memory.wf_nil _
  ram := Memory.wf_nil _
  nibbles h := nomatch h

/-- Settles O42: the reset values meet the invariants of the CPU and the display; construction cuts the arrays to their sizes. -/
theorem resetMeetsInvariants : Obligations.ResetMeetsInvariants := by
  refine ⟨fun _ r _ => ⟨Cpu.atReset_flagsOk r, Cpu.atReset_imeOk r, Ppu.atReset_ok _ _, Ppu.atReset_dmaOk _ _⟩, ?_, ?_, ?_⟩
  · intro img r m s himg hwram hhram hvram hoam hcart h
    unfold construct at h
    split at h
    · cases h
    · next cart hconstruct =>
      cases h
      obtain ⟨harrays, hselectors⟩ := Cart.construct_arraysOk himg (Memory.wf_restrict hcart) hconstruct
      exact ⟨State.atReset_arraysOk r harrays (Memory.wf_restrict hwram) (Memory.wf_restrict hhram) (Memory.wf_restrict hvram)
        (Memory.wf_restrict hoam), hselectors⟩
  · exact State.atReset_arraysOk _ Cart.blank_arraysOk (Memory.wf_nil _) (Memory.wf_nil _) (Memory.wf_nil _) (Memory.wf_nil _)
  · exact Cart.atReset_selectorsOk _ _ _ _ _

/-! The reset values (R50). -/

theorem Cpu.atReset_flags (r : Config.ResetRegs) : (Cpu.atReset r).f.extractLsb' 4 4 = r.flags := by
  show (r.flags ++ (0#4) : Byte).extractLsb' 4 4 = r.flags
  generalize r.flags = flags
  revert flags
  decide

/-- In mode 0 nothing is gated (R379, R380). -/
theorem Ppu.atReset_read (vram oam : Memory) (a : Nat) : (Ppu.atReset vram oam).read a = (Ppu.atReset vram oam).get a := by
  simp [Ppu.read, Ppu.gated, Ppu.mode, Ppu.atReset]

/-- Every display register reads 0 after reset. -/
theorem Ppu.atReset_read_register (vram oam : Memory) {a : Nat} (h : 0xFF40 ≤ a) (h' : a ≤ 0xFF4B) :
    (Ppu.atReset vram oam).read a = 0 := by
  rw [Ppu.atReset_read, Ppu.get, if_neg (by omega), if_neg (by omega)]
  unfold Ppu.readReg
  split
  case h_2 => exact BitVec.zero_and
  case h_13 =>
    simp only [imp_false] at *
    omega
  all_goals rfl

theorem Ppu.atReset_frameAt (vram oam : Memory) (y : Nat) {x : Nat} (hx : x < Config.screenWidth) :
    (Ppu.atReset vram oam).frameAt y x = 0 := List.getD_replicate _ hx

theorem Ppu.atReset_sourceAt (vram oam : Memory) (y : Nat) {x : Nat} (hx : x < Config.screenWidth) :
    (Ppu.atReset vram oam).sourceAt y x = .none := List.getD_replicate _ hx

/-- Settles O43: every field by its definition, and the reads from the registers' values. -/
theorem resetState : Obligations.ResetState := by
  intro cart r m
  dsimp only
  refine ⟨⟨rfl, rfl, rfl, rfl, rfl, rfl, rfl, rfl, rfl, Cpu.atReset_flagsOk r, Cpu.atReset_flags r⟩,
    ⟨rfl, rfl, rfl, rfl⟩, ⟨rfl, rfl, rfl, fun _ => rfl⟩, ⟨rfl, rfl, rfl, rfl, rfl⟩, ⟨rfl, rfl, rfl, rfl, rfl⟩,
    ⟨rfl, rfl, rfl, rfl, rfl, rfl, rfl, rfl, rfl, rfl, rfl, rfl⟩, fun a h h' => ?_, ⟨rfl, rfl, rfl, rfl, rfl, rfl, rfl⟩,
    fun y x hx => ⟨Ppu.atReset_frameAt _ _ y hx, Ppu.atReset_sourceAt _ _ y hx⟩, ⟨rfl, rfl, rfl⟩⟩
  have hread := Ppu.atReset_read_register m.vram m.oam h h'
  exact ⟨(congrArg (BitVec.extractLsb' 0 7) hread).trans rfl, fun _ => hread⟩

end Sys2Proof.Machine
end

section
/-! SUPPORT. The cartridge (R62, R422 to R435): what a write changes of it, said once for the ROM windows and once for the RAM
window, and that no write selects bank 0. -/

namespace Sys2Proof.Machine

namespace Cart

/-- `d` is `c` but for its selector registers. -/
def SameButSelectors (c d : Cart) : Prop := ∃ ramEnable romBank ramBank mode sel,
  d = { c with ramEnable, romBank, ramBank, mode, sel }

/-- `d` is `c` but for the contents of its RAM and its clock registers. -/
def SameButRam (c d : Cart) : Prop := ∃ ram rtc, d = { c with ram, rtc }

variable (c : Cart) (a : Nat) (v : Byte)

theorem selectA_sameButSelectors : c.SameButSelectors (c.selectA a v) := by
  unfold selectA
  split
  · exact ⟨_, _, _, _, _, rfl⟩
  split
  · exact ⟨_, _, _, _, _, rfl⟩
  split
  · split <;> exact ⟨_, _, _, _, _, rfl⟩
  · exact ⟨_, _, _, _, _, rfl⟩

theorem selectB_sameButSelectors : c.SameButSelectors (c.selectB a v) := by
  unfold selectB
  split
  · split <;> exact ⟨_, _, _, _, _, rfl⟩
  · exact ⟨_, _, _, _, _, rfl⟩

theorem selectC_sameButSelectors : c.SameButSelectors (c.selectC a v) := by
  unfold selectC
  split
  · exact ⟨_, _, _, _, _, rfl⟩
  split
  · exact ⟨_, _, _, _, _, rfl⟩
  split <;> exact ⟨_, _, _, _, _, rfl⟩

variable {a} in
/-- A write of the ROM windows (R430 to R433). -/
theorem write_sameButSelectors (h : a < 0x8000) : c.SameButSelectors (c.write a v) := by
  unfold write
  rw [if_pos h]
  split
  · exact ⟨_, _, _, _, _, rfl⟩
  · exact c.selectA_sameButSelectors a v
  · exact c.selectB_sameButSelectors a v
  · exact c.selectC_sameButSelectors a v

variable {a} in
theorem write_of_ram (h : 0x8000 ≤ a) : c.write a v = c.writeRam a v := if_neg (not_lt.mpr h)

/-- A write of the RAM window (R430 to R433). -/
theorem writeRam_sameButRam : c.SameButRam (c.writeRam a v) := by
  unfold writeRam
  split
  · exact ⟨_, _, rfl⟩
  split
  · split <;> exact ⟨_, _, rfl⟩
  · exact ⟨_, _, rfl⟩

/-- What the construction of a cartridge fixes: the ROM, the variant and the sizes (R422). -/
def built : Memory × Variant × Nat × Nat := (c.rom, c.variant, c.romBanks, c.ramSize)

/-- No write changes what the construction has fixed (R62, R435). -/
@[simp] theorem write_built : (c.write a v).built = c.built := by
  by_cases h : a < 0x8000
  · obtain ⟨_, _, _, _, _, e⟩ := c.write_sameButSelectors v h
    rw [e]
    rfl
  · obtain ⟨_, _, e⟩ := c.writeRam_sameButRam a v
    rw [c.write_of_ram v (not_lt.mp h), e]
    rfl

end Cart

/-! The bank selector. -/

theorem coerceBank_ne_zero (n : BitVec 7) : coerceBank n ≠ 0 := by
  unfold coerceBank
  split
  · decide
  · assumption

/-- The coercion of a bank field of fewer bits stays below their bound (R427). -/
theorem coerceBank_lt {n : BitVec 7} {k : Nat} (hk : 1 < k) (h : n.toNat < k) : (coerceBank n).toNat < k := by
  unfold coerceBank
  split
  · exact hk
  · exact h

/-- Of a bank of Scheme-A with its low field replaced by `n`, the low field is `n`'s (R431). -/
theorem lowBank_of_low_replaced (bank n : BitVec 7) : (bank &&& 0x60 ||| n).extractLsb' 0 5 = n.extractLsb' 0 5 := by
  simp [BitVec.extractLsb'_or, BitVec.extractLsb'_and]

/-- A bank that fits the low field and is not 0 is not 0 in it. -/
theorem lowBank_ne_zero {n : BitVec 7} (hn : n ≠ 0) (h : n.toNat < 32) : n.extractLsb' 0 5 ≠ 0 := by
  intro e
  have hlow : n.toNat % 32 = 0 := by simpa using congrArg BitVec.toNat e
  bv_omega

namespace Cart.SelectorsOk

variable {c : Cart}

/-- For Scheme-A the low field of the bank decides. -/
theorem of_schemeA (hv : c.variant = .schemeA) (h : c.romBank.extractLsb' 0 5 ≠ 0) : c.SelectorsOk where
  bank e := h (e ▸ rfl)
  schemeA _ := h
  schemeB hb := absurd (hv.symm.trans hb) (by decide)

theorem selectA (h : c.SelectorsOk) (hv : c.variant = .schemeA) (a : Nat) (v : Byte) : (c.selectA a v).SelectorsOk := by
  unfold Cart.selectA
  split
  · exact { h with }
  split
  · refine of_schemeA hv ?_
    rw [lowBank_of_low_replaced]
    exact lowBank_ne_zero (coerceBank_ne_zero _) (coerceBank_lt (by decide) (by bv_omega))
  split
  · split
    · exact { h with }
    · refine of_schemeA hv ?_
      rw [BitVec.extractLsb'_append_eq_right]
      exact h.schemeA hv
  · exact { h with }

theorem selectB (h : c.SelectorsOk) (hv : c.variant = .schemeB) (a : Nat) (v : Byte) : (c.selectB a v).SelectorsOk := by
  unfold Cart.selectB
  split
  · split
    · exact { h with }
    · exact ⟨coerceBank_ne_zero _, fun ha => absurd (hv.symm.trans ha) (by decide),
        fun _ => coerceBank_lt (by decide) (by bv_omega)⟩
  · exact h

theorem selectC (h : c.SelectorsOk) (hv : c.variant = .schemeC) (a : Nat) (v : Byte) : (c.selectC a v).SelectorsOk := by
  unfold Cart.selectC
  split
  · exact { h with }
  split
  · exact ⟨coerceBank_ne_zero _, fun ha => absurd (hv.symm.trans ha) (by decide),
      fun hb => absurd (hv.symm.trans hb) (by decide)⟩
  split
  · exact { h with }
  · exact h

/-- No write selects bank 0 (R427). -/
theorem write (h : c.SelectorsOk) (a : Nat) (v : Byte) : (c.write a v).SelectorsOk := by
  by_cases ha : a < 0x8000
  · unfold Cart.write
    rw [if_pos ha]
    split
    · exact h
    · next hv => exact h.selectA hv a v
    · next hv => exact h.selectB hv a v
    · next hv => exact h.selectC hv a v
  · obtain ⟨_, _, e⟩ := c.writeRam_sameButRam a v
    rw [c.write_of_ram v (not_lt.mp ha), e]
    exact { h with }

end Cart.SelectorsOk

/-! The cartridge on the BUS: only a CPU write reaches it (R62). -/

/-- An owner's store writes the cartridge or leaves it alone. -/
theorem Bus.store_cart_cases (b : Bus) (a : Nat) (v : Byte) :
    (b.store a v).cart = b.cart.write a v ∨ (b.store a v).cart = b.cart := by
  unfold Bus.store
  cases regionOf a
  case rom | cartRam => exact .inl rfl
  all_goals exact .inr rfl

/-- A CPU write writes the cartridge or leaves it alone (R62, R71). -/
theorem Bus.memWrite_cart_cases (b : Bus) (a : Word) (v : Byte) :
    (b.memWrite a v).cart = b.cart.write a.toNat v ∨ (b.memWrite a v).cart = b.cart := by
  rcases b.memWrite_cases a v with e | e | ⟨r, e⟩ <;> rw [e]
  · exact .inr rfl
  · exact b.store_cart_cases _ v
  · exact b.store_cart_cases _ v

theorem Bus.dmaTick4_cart (b : Bus) : b.dmaTick4.cart = b.cart := by
  have htransfer : b.dmaTransfer.cart = b.cart := by
    unfold Bus.dmaTransfer
    dsimp only
    split
    · exact Bus.note_cart _ _ _
    · rfl
  cases hactive : b.ppu.dmaActive with
  | false => rw [b.dmaTick4_of_idle hactive]
  | true =>
    rw [b.dmaTick4_of_active hactive, apply_ite Bus.cart, htransfer, ite_self]

/-- A property of the cartridge that no write ends is kept by every step. -/
theorem step_cart {P : Cart → Prop} (hw : ∀ c a v, P c → P (c.write a v)) {s t : State} (h : step s = .next t)
    (hs : P s.bus.cart) : P t.bus.cart := by
  have hwrite : ∀ (b : Bus) a v, P b.cart → P (b.memWrite a v).cart := by
    intro b a v hb
    rcases b.memWrite_cart_cases a v with e | e <;> rw [e]
    · exact hw _ _ v hb
    · exact hb
  have htick : ∀ b : Bus, P b.cart → P b.tick4.cart := by
    intro b hb
    show P b.dmaTick4.cart
    rwa [b.dmaTick4_cart]
  exact step_bus (P := fun b => P b.cart) hwrite (fun _ _ h => h) (fun _ _ h => h) (fun _ h => h) (fun _ _ h => h) htick
    (fun _ _ h => h) (fun _ h => h) s t h hs

/-- Settles O40: no write changes what the construction has fixed, and every write keeps the selectors in order. -/
theorem cartridgeInvariant : Obligations.CartridgeInvariant := by
  intro s t h
  refine ⟨?_, step_cart (P := Cart.SelectorsOk) (fun _ a v hc => hc.write a v) h⟩
  have hbuilt : t.bus.cart.built = s.bus.cart.built :=
    step_cart (P := fun c => c.built = s.bus.cart.built) (fun c a v hc => (c.write_built a v).trans hc) h rfl
  simpa [Cart.built] using hbuilt

end Sys2Proof.Machine
end

section
/-! SUPPORT. The BUS by the region of an address (R61 to R76): an equation for each owner's read and for the write that reaches
it, and when the DMA engine blocks the CPU. -/

namespace Sys2Proof.Machine

namespace Bus

variable {b : Bus} {f : Ppu → Nat → Byte} {a : Nat} {v : Byte}

/-! The reads, gated or not (`f`). -/

theorem readWith_cart (h : regionOf a = .rom ∨ regionOf a = .cartRam) : b.readWith f a = b.cart.read a := by
  rcases h with h | h <;> simp [readWith, h]

theorem readWith_ppu (h : regionOf a = .vram ∨ regionOf a = .oam ∨ regionOf a = .ppuReg) : b.readWith f a = f b.ppu a := by
  rcases h with h | h | h <;> simp [readWith, h]

theorem readWith_wram (h : regionOf a = .wram) : b.readWith f a = Memory.read b.wram (a - 0xC000) := by simp [readWith, h]

theorem readWith_echo (h : regionOf a = .echo) : b.readWith f a = Memory.read b.wram (a - 0xE000) := by simp [readWith, h]

theorem readWith_joypad (h : regionOf a = .joyp) : b.readWith f a = b.joypad.read := by simp [readWith, h]

theorem readWith_timer (h : regionOf a = .timer) : b.readWith f a = b.timer.read a := by simp [readWith, h]

theorem readWith_io (h : regionOf a = .ioSlot) : b.readWith f a = Memory.read b.io (a - 0xFF00) := by simp [readWith, h]

theorem readWith_hram (h : regionOf a = .hram) : b.readWith f a = Memory.read b.hram (a - 0xFF80) := by simp [readWith, h]

theorem readWith_ie (h : regionOf a = .ie) : b.readWith f a = b.ie := by simp [readWith, h]

/-! The writes. -/

theorem write_of_mapped (h : regionOf a ≠ .unmapped) : b.write a v = b.store a v := note_of_mapped _ _ h

theorem write_cart (h : regionOf a = .rom ∨ regionOf a = .cartRam) : b.write a v = { b with cart := b.cart.write a v } := by
  rcases h with h | h <;> simp [write_of_mapped, store, h]

theorem write_ppu (h : regionOf a = .vram ∨ regionOf a = .oam) : b.write a v = { b with ppu := b.ppu.write a v } := by
  rcases h with h | h <;> simp [write_of_mapped, store, h]

theorem write_wram (h : regionOf a = .wram) : b.write a v = { b with wram := Memory.write b.wram (a - 0xC000) v } := by
  simp [write_of_mapped, store, h]

theorem write_echo (h : regionOf a = .echo) : b.write a v = { b with wram := Memory.write b.wram (a - 0xE000) v } := by
  simp [write_of_mapped, store, h]

theorem write_joypad (h : regionOf a = .joyp) :
    b.write a v = { b with joypad := b.joypad.write v, io := Memory.write b.io (a - 0xFF00) v } := by
  rw [write_of_mapped (by simp [h]), store, h]
  rfl

theorem write_timer (h : regionOf a = .timer) :
    b.write a v = { b with timer := b.timer.write a v, io := Memory.write b.io (a - 0xFF00) v } := by
  rw [write_of_mapped (by simp [h]), store, h]
  rfl

theorem write_ppuReg (h : regionOf a = .ppuReg) :
    b.write a v = { b with ppu := b.ppu.write a v, io := Memory.write b.io (a - 0xFF00) v } := by
  rw [write_of_mapped (by simp [h]), store, h]
  rfl

theorem write_io (h : regionOf a = .ioSlot) : b.write a v = { b with io := Memory.write b.io (a - 0xFF00) v } := by
  rw [write_of_mapped (by simp [h]), store, h]
  rfl

theorem write_hram (h : regionOf a = .hram) : b.write a v = { b with hram := Memory.write b.hram (a - 0xFF80) v } := by
  simp [write_of_mapped, store, h]

theorem write_ie (h : regionOf a = .ie) : b.write a v = { b with ie := v } := by
  simp [write_of_mapped, store, h]

/-- An access to the hole records itself (R68). -/
theorem note_of_unmapped (b : Bus) (x : Access) (h : regionOf a = .unmapped) :
    b.note a x = b.record (.unmappedAddress (BitVec.ofNat 16 a) x) := by
  simp [note, accessAnomaly, h]

theorem write_unmapped (h : regionOf a = .unmapped) :
    b.write a v = b.record (.unmappedAddress (BitVec.ofNat 16 a) .write) := by
  simp [write, store, note_of_unmapped, h]

/-- The DMA engine blocks work RAM and echo while a transfer runs (R76). -/
theorem blocks_iff : b.blocks a = true ↔ b.ppu.dmaActive = true ∧ 0xC000 ≤ a ∧ a ≤ 0xFDFF := by
  rw [blocks, Bool.and_eq_true, dmaBlocked_iff]

theorem blocks_of_unmapped (h : regionOf a = .unmapped) : b.blocks a = false := by simp [blocks, dmaBlocked, h]

end Bus

/-- Settles O60: each range is a region, and its owner's equations are the clause. -/
theorem busRouting : Obligations.BusRouting := by
  intro b a v
  refine ⟨fun h => ?_, fun h => ?_, fun h => ?_, fun h => ?_, fun h => ?_, fun h => ?_, fun h => ?_, fun h => ?_, fun h => ?_,
    fun h => ?_⟩
  · have hr : regionOf a = .rom ∨ regionOf a = .cartRam := h.imp regionOf_eq regionOf_eq
    exact ⟨Bus.readWith_cart hr, Bus.readWith_cart hr, Bus.write_cart hr⟩
  · have hr : regionOf a = .vram ∨ regionOf a = .oam := h.imp regionOf_eq regionOf_eq
    have hr' : regionOf a = .vram ∨ regionOf a = .oam ∨ regionOf a = .ppuReg := hr.imp_right .inl
    exact ⟨Bus.readWith_ppu hr', Bus.readWith_ppu hr', Bus.write_ppu hr⟩
  · have hr : regionOf a = .wram := regionOf_eq h
    exact ⟨Bus.readWith_wram hr, Bus.readWith_wram hr, Bus.write_wram hr⟩
  · have hr : regionOf a = .echo := regionOf_eq h
    exact ⟨Bus.readWith_echo hr, Bus.readWith_echo hr, Bus.write_echo hr⟩
  · have hr : regionOf a = .joyp := regionOf_eq h
    exact ⟨Bus.readWith_joypad hr, Bus.readWith_joypad hr, Bus.write_joypad hr⟩
  · have hr : regionOf a = .timer := regionOf_eq h
    exact ⟨Bus.readWith_timer hr, Bus.readWith_timer hr, Bus.write_timer hr⟩
  · have hr : regionOf a = .ppuReg := regionOf_eq h
    have hr' : regionOf a = .vram ∨ regionOf a = .oam ∨ regionOf a = .ppuReg := .inr (.inr hr)
    exact ⟨Bus.readWith_ppu hr', Bus.readWith_ppu hr', Bus.write_ppuReg hr⟩
  · have hr : regionOf a = .ioSlot := regionOf_eq ⟨by omega, by omega, by omega, by omega⟩
    exact ⟨Bus.readWith_io hr, Bus.readWith_io hr, Bus.write_io hr⟩
  · have hr : regionOf a = .hram := regionOf_eq ⟨h.1, by omega⟩
    exact ⟨Bus.readWith_hram hr, Bus.readWith_hram hr, Bus.write_hram hr⟩
  · have hr : regionOf a = .ie := regionOf_eq h.ge
    exact ⟨Bus.readWith_ie hr, Bus.readWith_ie hr, Bus.write_ie hr⟩

/-- Settles O25: `blocks_iff` is the statement's condition, and outside the hole no access is recorded. -/
theorem cpuAccess : Obligations.CpuAccess := by
  intro b a v
  dsimp only
  rw [← Bus.blocks_iff]
  refine ⟨fun h => ?_, fun h => ?_, b.afterRead_eq a, b.afterRead_memRead a, fun h => ?_, fun h => ?_⟩
  · simp [Bus.memRead, Bus.afterRead, Bus.memWrite, h, Config.dmaSentinel]
  · simp [Bus.memRead, Bus.memWrite, h]
  · have hr : regionOf a.toNat ≠ .unmapped := fun e => by
      have hbounds : 0xFEA0 ≤ a.toNat ∧ a.toNat < 0xFF00 := bounds_of_regionOf e
      omega
    simp [Bus.afterRead, note_of_mapped b .read hr]
  · have hr : regionOf a.toNat = .unmapped := regionOf_eq ⟨h.1, by omega⟩
    simp [Bus.afterRead, Bus.blocks_of_unmapped hr, b.note_of_unmapped .read hr, Bus.mem_recordAnomaly]

/-- Settles O26: a write and a read of one region are a store to one array and a read of it. -/
theorem storageReadsBack : Obligations.StorageReadsBack := by
  intro b v
  refine ⟨fun k hk => ?_, fun k hk => ?_, fun a h => ?_, ?_, ?_⟩
  · have hw : regionOf (0xC000 + k) = .wram := regionOf_eq ⟨by omega, by omega⟩
    simp [Bus.read, Bus.readWith_wram hw, Bus.write_wram hw]
  · have hw : regionOf (0xC000 + k) = .wram := regionOf_eq ⟨by omega, by omega⟩
    have he : regionOf (0xE000 + k) = .echo := regionOf_eq ⟨by omega, by omega⟩
    simp [Bus.read, Bus.readWith_wram hw, Bus.write_wram hw, Bus.readWith_echo he, Bus.write_echo he]
  · by_cases hio : a < 0xFF80
    · have hr : regionOf a = .ioSlot := regionOf_eq ⟨by omega, hio, by omega, by omega⟩
      simp [Bus.read, Bus.readWith_io hr, Bus.write_io hr]
    by_cases hhram : a < 0xFFFF
    · have hr : regionOf a = .hram := regionOf_eq ⟨by omega, hhram⟩
      simp [Bus.read, Bus.readWith_hram hr, Bus.write_hram hr]
    · have hr : regionOf a = .ie := regionOf_eq (not_lt.mp hhram)
      simp [Bus.read, Bus.readWith_ie hr, Bus.write_ie hr]
  · have hr : regionOf 0xFF0F = .ioSlot := by decide
    simp [Bus.ifReg, Bus.write_io hr]
  · have hr : regionOf 0xFFFF = .ie := by decide
    rw [Bus.write_ie hr]

end Sys2Proof.Machine
end

section
/-! SUPPORT. What a write leaves unchanged: of each owner the reads of the other addresses, and of the BUS the reads of every
address that `writeAffects` excludes. -/

namespace Sys2Proof.Machine

/-! The cartridge. -/

namespace Cart

variable {c : Cart} {a x : Nat} (v : Byte)

/-- A selector does not move the fixed window (R430 to R433). -/
theorem SameButSelectors.read_fixedWindow {d : Cart} (h : c.SameButSelectors d) (hx : x < 0x4000) : d.read x = c.read x := by
  obtain ⟨_, _, _, _, _, rfl⟩ := h
  have hx' : x < 0x8000 := by omega
  simp [read, romCell, hx, hx']

theorem write_romOnly (ha : a < 0x8000) (h : c.variant = .romOnly) : c.write a v = c := by simp [write, ha, h]

theorem SameButRam.read_rom {d : Cart} (h : c.SameButRam d) (hx : x < 0x8000) : d.read x = c.read x := by
  obtain ⟨_, _, rfl⟩ := h
  rw [read, read, if_pos hx, if_pos hx]
  rfl

/-- What the RAM window reaches is the selectors' (R430 to R433). -/
theorem SameButRam.window {d : Cart} (h : c.SameButRam d) :
    d.variant = c.variant ∧ d.rtcCell = c.rtcCell ∧ d.ramCell = c.ramCell := by
  obtain ⟨_, _, rfl⟩ := h
  exact ⟨rfl, rfl, rfl⟩

theorem read_of_ram (hx : 0x8000 ≤ x) : c.read x = c.readRam x := if_neg (not_lt.mpr hx)

/-- A write of the RAM window leaves the cells of RAM that it does not reach (R428). -/
theorem read_ram_writeRam_ne {k : Nat} (hclock : c.rtcCell = none) (h : c.ramCell a ≠ some k) :
    Memory.read (c.writeRam a v).ram k = Memory.read c.ram k := by
  unfold writeRam
  rw [hclock]
  cases hcell : c.ramCell a with
  | none => rfl
  | some j =>
    have hne : k ≠ j := fun e => h (e ▸ hcell)
    cases hv : c.variant <;> exact Memory.read_write_ne _ _ _ _ hne

theorem readRam_writeRam_ne (hclock : c.rtcCell = none) (h : c.ramCell x ≠ c.ramCell a) :
    (c.writeRam a v).readRam x = c.readRam x := by
  obtain ⟨hvariant, hclock', hcell⟩ := (c.writeRam_sameButRam a v).window
  unfold readRam
  rw [hclock', hcell, hvariant, hclock]
  cases hx : c.ramCell x with
  | none => rfl
  | some k =>
    dsimp only
    rw [read_ram_writeRam_ne v hclock fun ha => h (hx.trans ha.symm)]

end Cart

theorem lt_of_not_inSwitchedWindow {x : Nat} (h : inSwitchedWindow x = false) (hx : regionOf x = .rom ∨ regionOf x = .cartRam) :
    x < 0x4000 := by
  rcases hx with hr | hr
  · have hlt : x < 0x8000 := bounds_of_regionOf hr
    simp [inSwitchedWindow, hr] at h
    omega
  · simp [inSwitchedWindow, hr] at h

/-! The display controller. -/

namespace Ppu

variable {p q : Ppu} {a x : Nat} (v : Byte)

/-- The gating is the mode's (R379, R380). -/
theorem read_congr (hmode : q.mode = p.mode) (hget : q.get x = p.get x) : q.read x = p.read x := by
  have hgated : q.gated x = p.gated x := by simp only [gated, hmode]
  rw [read, read, hgated, hget]

/-- No register is gated (R361). -/
theorem gated_register (hx : 0xFF40 ≤ x) : p.gated x = false := by
  have hvram : ¬ (0x8000 ≤ x ∧ x ≤ 0x9FFF) := by omega
  have hoam : ¬ (0xFE00 ≤ x ∧ x ≤ 0xFE9F) := by omega
  simp [gated, hvram, hoam]

theorem read_register (hx : 0xFF40 ≤ x) : p.read x = p.get x := by simp [read, gated_register hx]

theorem get_setVram_ne (ha : 0x8000 ≤ a) (h : x ≠ a) :
    Ppu.get { p with vram := Memory.write p.vram (a - 0x8000) v } x = p.get x := by
  unfold get
  split
  · exact Memory.read_write_ne _ _ _ _ (by omega)
  · rfl

theorem get_setOam_ne (ha : 0xFE00 ≤ a) (h : x ≠ a) :
    Ppu.get { p with oam := Memory.write p.oam (a - 0xFE00) v } x = p.get x := by
  unfold get
  split
  · rfl
  split
  · exact Memory.read_write_ne _ _ _ _ (by omega)
  · rfl

theorem set_vram (h : 0x8000 ≤ a ∧ a < 0xA000) :
    p.set a v = { p with vram := Memory.write p.vram (a - 0x8000) v } := if_pos (by omega)

theorem set_oam (h : 0xFE00 ≤ a ∧ a < 0xFEA0) :
    p.set a v = { p with oam := Memory.write p.oam (a - 0xFE00) v } := by
  rw [set, if_neg (by omega), if_pos (by omega)]

theorem write_register (h : 0xFF40 ≤ a) : p.write a v = p.writeReg a v := by
  rw [write, gated_register h, if_neg Bool.false_ne_true, set, if_neg (by omega), if_neg (by omega)]

/-- A gated write changes nothing, any other is `set` (R379, R380). -/
theorem write_cases : p.write a v = p ∨ p.write a v = p.set a v := by
  unfold write
  split
  · exact .inl rfl
  · exact .inr rfl

/-- A write to LCDC changes LCDC, and with the display's turning off or on the mode and the position (R362, R377, R378). -/
theorem writeLcdc_eq : ∃ stat ly lineCycle, p.writeLcdc v = { p with lcdc := v, stat, ly, lineCycle } := by
  unfold writeLcdc
  split
  · exact ⟨_, _, _, rfl⟩
  split <;> exact ⟨_, _, _, rfl⟩

/-- No register write reaches video RAM or object memory. -/
theorem writeReg_memories : (p.writeReg a v).vram = p.vram ∧ (p.writeReg a v).oam = p.oam := by
  unfold writeReg
  split
  case h_1 =>
    obtain ⟨_, _, _, e⟩ := p.writeLcdc_eq v
    rw [e]
    exact ⟨rfl, rfl⟩
  all_goals exact ⟨rfl, rfl⟩

/-- Only a write to the DMA register starts a transfer (R391). -/
theorem writeReg_dmaActive (h : a ≠ 0xFF46) : (p.writeReg a v).dmaActive = p.dmaActive := by
  unfold writeReg
  split
  case h_1 =>
    obtain ⟨_, _, _, e⟩ := p.writeLcdc_eq v
    rw [e]
  case h_7 => exact absurd rfl h
  all_goals rfl

/-- A write to STAT leaves the mode (R363). -/
theorem writeStat_mode : (p.writeStat v).mode = p.mode := by
  show ((p.stat &&& 0x87) ||| (v &&& 0x78)).extractLsb' 0 2 = p.stat.extractLsb' 0 2
  have hkept : (0x87 : Byte).extractLsb' 0 2 = BitVec.allOnes 2 := by decide
  have hwritten : (0x78 : Byte).extractLsb' 0 2 = 0#2 := by decide
  rw [BitVec.extractLsb'_or, BitVec.extractLsb'_and, BitVec.extractLsb'_and, hkept, hwritten, BitVec.and_allOnes,
    BitVec.and_zero, BitVec.or_zero]

theorem writeReg_mode (h : a ≠ 0xFF40) : (p.writeReg a v).mode = p.mode := by
  unfold writeReg
  split
  case h_1 => exact absurd rfl h
  case h_2 => exact p.writeStat_mode v
  all_goals rfl

/-- A register's write leaves every other register, but that LCDC's can move STAT and LY (R377, R378). -/
theorem readReg_writeReg_ne (h : x ≠ a) (hl : a = 0xFF40 → x ≠ 0xFF41 ∧ x ≠ 0xFF44) :
    (p.writeReg a v).readReg x = p.readReg x := by
  unfold writeReg
  split
  case' h_1 =>
    obtain ⟨hstat, hly⟩ := hl rfl
    obtain ⟨_, _, _, e⟩ := p.writeLcdc_eq v
    rw [e]
  all_goals
    unfold readReg
    split <;> try contradiction
    all_goals rfl

/-- A write to video RAM, gated or not, leaves every other address of the display. -/
theorem write_vram_frame (ha : 0x8000 ≤ a ∧ a < 0xA000) (h : x ≠ a) :
    (p.write a v).read x = p.read x ∧ (p.write a v).get x = p.get x := by
  rcases p.write_cases (a := a) v with e | e <;> rw [e]
  · exact ⟨rfl, rfl⟩
  · rw [set_vram v ha]
    have hget := get_setVram_ne (p := p) v ha.1 h
    exact ⟨read_congr rfl hget, hget⟩

theorem write_oam_frame (ha : 0xFE00 ≤ a ∧ a < 0xFEA0) (h : x ≠ a) :
    (p.write a v).read x = p.read x ∧ (p.write a v).get x = p.get x := by
  rcases p.write_cases (a := a) v with e | e <;> rw [e]
  · exact ⟨rfl, rfl⟩
  · rw [set_oam v ha]
    have hget := get_setOam_ne (p := p) v ha.1 h
    exact ⟨read_congr rfl hget, hget⟩

/-- A write to a register leaves every other address of the display, but that LCDC's can move the mode with STAT and LY. -/
theorem writeReg_frame (h : x ≠ a) (hl : a = 0xFF40 → 0xFF40 ≤ x ∧ x ≠ 0xFF41 ∧ x ≠ 0xFF44) :
    (p.writeReg a v).read x = p.read x ∧ (p.writeReg a v).get x = p.get x := by
  have hget : (p.writeReg a v).get x = p.get x := by
    obtain ⟨hvram, hoam⟩ := p.writeReg_memories (a := a) v
    rw [get, get, hvram, hoam, readReg_writeReg_ne v h fun e => (hl e).2]
  refine ⟨?_, hget⟩
  by_cases e : a = 0xFF40
  · rw [read_register (hl e).1, read_register (hl e).1, hget]
  · exact read_congr (writeReg_mode v e) hget

theorem write_memory_dmaActive (ha : 0x8000 ≤ a ∧ a < 0xA000 ∨ 0xFE00 ≤ a ∧ a < 0xFEA0) :
    (p.write a v).dmaActive = p.dmaActive := by
  rcases p.write_cases (a := a) v with e | e <;> rw [e]
  rcases ha with ha | ha
  · rw [set_vram v ha]
  · rw [set_oam v ha]

end Ppu

/-! The Timer. -/

theorem Timer.read_write_ne {t : Timer} {a x : Nat} (v : Byte) (h : x ≠ a) : (t.write a v).read x = t.read x := by
  unfold Timer.write
  split_ifs with h4 h5 h6 h7
  · simp [Timer.read, h4 ▸ h]
  · simp [Timer.read, h5 ▸ h]
  · simp [Timer.read, h6 ▸ h]
  · simp [Timer.read, h7 ▸ h]
  · rfl

/-! The BUS. -/

namespace Bus

/-- The BUS `c` answers the CPU and the DMA engine at address `x` as `b` does: the owner of `x` reads the same there, and `x` is
blocked in both or in neither. -/
structure AgreeAt (b c : Bus) (x : Nat) : Prop where
  cart : regionOf x = .rom ∨ regionOf x = .cartRam → c.cart.read x = b.cart.read x
  ppu : regionOf x = .vram ∨ regionOf x = .oam ∨ regionOf x = .ppuReg →
    c.ppu.read x = b.ppu.read x ∧ c.ppu.get x = b.ppu.get x
  wram : regionOf x = .wram → Memory.read c.wram (x - 0xC000) = Memory.read b.wram (x - 0xC000)
  echo : regionOf x = .echo → Memory.read c.wram (x - 0xE000) = Memory.read b.wram (x - 0xE000)
  joypad : regionOf x = .joyp → c.joypad.read = b.joypad.read
  timer : regionOf x = .timer → c.timer.read x = b.timer.read x
  io : regionOf x = .ioSlot → Memory.read c.io (x - 0xFF00) = Memory.read b.io (x - 0xFF00)
  hram : regionOf x = .hram → Memory.read c.hram (x - 0xFF80) = Memory.read b.hram (x - 0xFF80)
  ie : regionOf x = .ie → c.ie = b.ie
  blocked : dmaBlocked x = true → c.ppu.dmaActive = b.ppu.dmaActive

namespace AgreeAt

variable {b c : Bus} {x : Nat}

theorem refl (b : Bus) (x : Nat) : AgreeAt b b x :=
  ⟨fun _ => rfl, fun _ => ⟨rfl, rfl⟩, fun _ => rfl, fun _ => rfl, fun _ => rfl, fun _ => rfl, fun _ => rfl, fun _ => rfl,
    fun _ => rfl, fun _ => rfl⟩

/-- The reads agree, gated or not, where the display's own do. -/
theorem readWith (h : AgreeAt b c x) {f : Ppu → Nat → Byte}
    (hf : regionOf x = .vram ∨ regionOf x = .oam ∨ regionOf x = .ppuReg → f c.ppu x = f b.ppu x) :
    c.readWith f x = b.readWith f x := by
  unfold Bus.readWith
  cases hr : regionOf x with
  | rom => exact h.cart (.inl hr)
  | cartRam => exact h.cart (.inr hr)
  | vram => exact hf (.inl hr)
  | oam => exact hf (.inr (.inl hr))
  | ppuReg => exact hf (.inr (.inr hr))
  | wram => exact h.wram hr
  | echo => exact h.echo hr
  | unmapped => rfl
  | joyp => exact h.joypad hr
  | timer => exact h.timer hr
  | ioSlot => exact h.io hr
  | hram => exact h.hram hr
  | ie => exact h.ie hr

theorem get (h : AgreeAt b c x) : c.get x = b.get x := h.readWith fun hr => (h.ppu hr).2

theorem blocks (h : AgreeAt b c x) : c.blocks x = b.blocks x := by
  unfold Bus.blocks
  cases hx : dmaBlocked x with
  | false => simp
  | true => rw [h.blocked hx]

theorem memRead {x : Word} (h : AgreeAt b c x.toNat) : c.memRead x = b.memRead x := by
  have hread : c.read x.toNat = b.read x.toNat := h.readWith fun hr => (h.ppu hr).1
  rw [Bus.memRead, Bus.memRead, h.blocks, hread]

end AgreeAt

variable {b : Bus} {a x : Nat} (v : Byte)

/-- The mirror of a write to an owned slot, or the write to an unowned one, leaves every other unowned slot (R69). -/
theorem read_ioSlot_ne (m : Memory) (ha : 0xFF00 ≤ a) (hne : x ≠ a) (hx : regionOf x = .ioSlot) :
    Memory.read (Memory.write m (a - 0xFF00) v) (x - 0xFF00) = Memory.read m (x - 0xFF00) := by
  have hbounds := bounds_of_regionOf hx
  simp only [Region.Bounds] at hbounds
  exact Memory.read_write_ne _ _ _ _ (by omega)

theorem write_rom_agreeAt (hr : regionOf a = .rom) (h : b.writeAffects a x = false) : AgreeAt b (b.write a v) x := by
  have ha : a < 0x8000 := bounds_of_regionOf hr
  rw [write_cart (.inl hr)]
  refine { AgreeAt.refl b x with cart := fun hx => ?_ }
  by_cases hv : b.cart.variant = .romOnly
  · rw [Cart.write_romOnly v ha hv]
  · have hw : inSwitchedWindow x = false := by simpa [writeAffects, hr, hv] using h
    exact (b.cart.write_sameButSelectors v ha).read_fixedWindow (lt_of_not_inSwitchedWindow hw hx)

theorem write_cartRam_agreeAt (hr : regionOf a = .cartRam) (h : b.writeAffects a x = false) :
    AgreeAt b (b.write a v) x := by
  have ha : 0xA000 ≤ a ∧ a < 0xC000 := bounds_of_regionOf hr
  rw [write_cart (.inr hr)]
  refine { AgreeAt.refl b x with cart := fun hx => ?_ }
  rw [b.cart.write_of_ram v (by omega)]
  rcases hx with hx | hx
  · exact (b.cart.writeRam_sameButRam a v).read_rom (bounds_of_regionOf hx)
  · have hx' : 0xA000 ≤ x ∧ x < 0xC000 := bounds_of_regionOf hx
    rw [Cart.read_of_ram (by omega), Cart.read_of_ram (by omega)]
    cases hclock : b.cart.rtcCell with
    | some i => simp [writeAffects, hr, hx, hclock] at h
    | none => exact Cart.readRam_writeRam_ne v hclock (by simpa [writeAffects, hr, hx, hclock] using h)

theorem write_vram_agreeAt (hr : regionOf a = .vram) (h : x ≠ a) : AgreeAt b (b.write a v) x := by
  have ha : 0x8000 ≤ a ∧ a < 0xA000 := bounds_of_regionOf hr
  rw [write_ppu (.inl hr)]
  exact { AgreeAt.refl b x with
    ppu := fun _ => Ppu.write_vram_frame v ha h
    blocked := fun _ => Ppu.write_memory_dmaActive v (.inl ha) }

theorem write_oam_agreeAt (hr : regionOf a = .oam) (h : x ≠ a) : AgreeAt b (b.write a v) x := by
  have ha : 0xFE00 ≤ a ∧ a < 0xFEA0 := bounds_of_regionOf hr
  rw [write_ppu (.inr hr)]
  exact { AgreeAt.refl b x with
    ppu := fun _ => Ppu.write_oam_frame v ha h
    blocked := fun _ => Ppu.write_memory_dmaActive v (.inr ha) }

/-- A byte of work RAM is read in echo too, but for the last 0x200 (R66). -/
theorem write_wram_agreeAt (hr : regionOf a = .wram) (h : b.writeAffects a x = false) : AgreeAt b (b.write a v) x := by
  have ha : 0xC000 ≤ a ∧ a < 0xE000 := bounds_of_regionOf hr
  have hne : x ≠ a ∧ (regionOf x = .echo → x ≠ a + 0x2000) := by simpa [writeAffects, hr] using h
  rw [write_wram hr]
  refine { AgreeAt.refl b x with wram := fun hx => ?_, echo := fun hx => ?_ }
  · have hx' : 0xC000 ≤ x ∧ x < 0xE000 := bounds_of_regionOf hx
    exact Memory.read_write_ne _ _ _ _ (by omega)
  · have hx' : 0xE000 ≤ x ∧ x < 0xFE00 := bounds_of_regionOf hx
    have hcopy := hne.2 hx
    exact Memory.read_write_ne _ _ _ _ (by omega)

/-- A byte of echo is one of work RAM (R66). -/
theorem write_echo_agreeAt (hr : regionOf a = .echo) (h : b.writeAffects a x = false) : AgreeAt b (b.write a v) x := by
  have ha : 0xE000 ≤ a ∧ a < 0xFE00 := bounds_of_regionOf hr
  have hne : x ≠ a ∧ x ≠ a - 0x2000 := by simpa [writeAffects, hr] using h
  rw [write_echo hr]
  refine { AgreeAt.refl b x with wram := fun hx => ?_, echo := fun hx => ?_ }
  · have hx' : 0xC000 ≤ x ∧ x < 0xE000 := bounds_of_regionOf hx
    exact Memory.read_write_ne _ _ _ _ (by omega)
  · have hx' : 0xE000 ≤ x ∧ x < 0xFE00 := bounds_of_regionOf hx
    exact Memory.read_write_ne _ _ _ _ (by omega)

/-- LCDC's write can ungate the display's memories and move STAT and LY, the DMA register's blocks the CPU (R76, R82). -/
theorem write_ppuReg_agreeAt (hr : regionOf a = .ppuReg) (h : b.writeAffects a x = false) :
    AgreeAt b (b.write a v) x := by
  have ha : 0xFF40 ≤ a ∧ a ≤ 0xFF4B := bounds_of_regionOf hr
  simp only [writeAffects, hr, Bool.or_eq_false_iff, Bool.and_eq_false_imp, decide_eq_true_eq, decide_eq_false_iff_not] at h
  obtain ⟨⟨hne, hlcdc⟩, hdma⟩ := h
  rw [write_ppuReg hr, Ppu.write_register v ha.1]
  refine { AgreeAt.refl b x with
    ppu := fun hx => Ppu.writeReg_frame v hne fun e => ?_
    io := read_ioSlot_ne v b.io (by omega) hne
    blocked := fun hx => Ppu.writeReg_dmaActive v fun e => absurd hx (by simp [hdma e]) }
  obtain ⟨⟨⟨hstat, hly⟩, hvram⟩, hoam⟩ := hlcdc e
  have hx' : 0xFF40 ≤ x ∧ x ≤ 0xFF4B := bounds_of_regionOf ((hx.resolve_left hvram).resolve_left hoam)
  exact ⟨hx'.1, hstat, hly⟩

/-- A write of the BUS leaves every address that it cannot affect (R60 to R75, R82). -/
theorem write_agreeAt (ha : a ≤ 0xFFFF) (hx : x ≤ 0xFFFF) (h : b.writeAffects a x = false) : AgreeAt b (b.write a v) x := by
  have hbounds := regionOf_bounds a
  cases hr : regionOf a
  case rom => exact write_rom_agreeAt v hr h
  case cartRam => exact write_cartRam_agreeAt v hr h
  case ppuReg => exact write_ppuReg_agreeAt v hr h
  case wram => exact write_wram_agreeAt v hr h
  case echo => exact write_echo_agreeAt v hr h
  case unmapped =>
    rw [write_unmapped hr]
    exact { AgreeAt.refl b x with }
  all_goals
    have hne : x ≠ a := by simpa [writeAffects, hr] using h
    simp only [hr, Region.Bounds] at hbounds
  case vram => exact write_vram_agreeAt v hr hne
  case oam => exact write_oam_agreeAt v hr hne
  case joyp =>
    rw [write_joypad hr]
    exact { AgreeAt.refl b x with
      joypad := fun hx => absurd ((bounds_of_regionOf hx).trans hbounds.symm) hne
      io := read_ioSlot_ne v b.io (by omega) hne }
  case timer =>
    rw [write_timer hr]
    exact { AgreeAt.refl b x with
      timer := fun _ => Timer.read_write_ne v hne
      io := read_ioSlot_ne v b.io (by omega) hne }
  case ioSlot =>
    rw [write_io hr]
    exact { AgreeAt.refl b x with io := read_ioSlot_ne v b.io (by omega) hne }
  case hram =>
    rw [write_hram hr]
    refine { AgreeAt.refl b x with hram := fun hx => ?_ }
    have hx' : 0xFF80 ≤ x ∧ x < 0xFFFF := bounds_of_regionOf hx
    exact Memory.read_write_ne _ _ _ _ (by omega)
  case ie =>
    rw [write_ie hr]
    refine { AgreeAt.refl b x with ie := fun hx' => ?_ }
    have hx'' : 0xFFFF ≤ x := bounds_of_regionOf hx'
    omega

/-- A CPU write leaves the reads of every address that it cannot affect, gated and ungated (R71, R82). -/
theorem memWrite_frame (b : Bus) {a x : Word} (v : Byte) (h : b.writeAffects a.toNat x.toNat = false) :
    (b.memWrite a v).memRead x = b.memRead x ∧ (b.memWrite a v).get x.toNat = b.get x.toNat := by
  unfold memWrite
  split
  · exact ⟨rfl, rfl⟩
  · have hagree := write_agreeAt v (by omega) (by omega) h
    exact ⟨hagree.memRead, hagree.get⟩

end Bus

/-- Settles O27: `memWrite_frame`, and in the hole the write is its record. -/
theorem writeFrame : Obligations.WriteFrame := by
  intro b a v
  refine ⟨fun x h => b.memWrite_frame v h, fun h => ?_⟩
  have hr : regionOf a.toNat = .unmapped := regionOf_eq ⟨h.1, by omega⟩
  have hwrite : b.memWrite a v = b.record (.unmappedAddress a .write) := by
    simp [Bus.memWrite, Bus.blocks_of_unmapped hr, Bus.write_unmapped hr]
  rw [hwrite]
  exact ⟨rfl, (Bus.mem_recordAnomaly _ _ _).mpr (.inr rfl)⟩

end Sys2Proof.Machine
end

section
/-! SUPPORT. What an instruction stores, said once: its effect on the BUS is records and at most two CPU writes, at the addresses
that `storedAddrs` computes (R92, R93). -/

namespace Sys2Proof.Machine

/-! What `writeAffects` asks of the cartridge, and that the first byte of a word leaves it for the second. -/

theorem Cart.write_variant (c : Cart) (a : Nat) (v : Byte) : (c.write a v).variant = c.variant :=
  congrArg (fun built => built.2.1) (c.write_built a v)

namespace Bus

theorem writeAffects_congr {b c : Bus} {a x : Nat} (hv : c.cart.variant = b.cart.variant)
    (hw : regionOf a = .cartRam → c.cart.rtcCell = b.cart.rtcCell ∧ c.cart.ramCell = b.cart.ramCell) :
    c.writeAffects a x = b.writeAffects a x := by
  unfold writeAffects
  cases hr : regionOf a
  case rom =>
    dsimp only
    rw [hv]
  case cartRam =>
    obtain ⟨hclock, hcell⟩ := hw hr
    dsimp only
    rw [hclock, hcell]
  all_goals rfl

theorem memWrite_variant (b : Bus) (a : Word) (v : Byte) : (b.memWrite a v).cart.variant = b.cart.variant := by
  rcases b.memWrite_cart_cases a v with e | e <;> rw [e]
  exact b.cart.write_variant _ v

/-- Only a write of the ROM windows moves the RAM window (R430 to R433). -/
theorem memWrite_window (b : Bus) {a : Word} (v : Byte) (ha : 0x8000 ≤ a.toNat) :
    (b.memWrite a v).cart.rtcCell = b.cart.rtcCell ∧ (b.memWrite a v).cart.ramCell = b.cart.ramCell := by
  rcases b.memWrite_cart_cases a v with e | e <;> rw [e]
  · rw [b.cart.write_of_ram v ha]
    exact (b.cart.writeRam_sameButRam _ v).window.2
  · exact ⟨rfl, rfl⟩

/-- A write does not change what one at the next address affects: no selector stands just before the RAM window. -/
theorem writeAffects_memWrite_next (b : Bus) (a : Word) (x : Nat) (v : Byte) :
    (b.memWrite a v).writeAffects (a + 1).toNat x = b.writeAffects (a + 1).toNat x := by
  refine writeAffects_congr (b.memWrite_variant a v) fun hr => b.memWrite_window v ?_
  have hnext : 0xA000 ≤ (a + 1).toNat ∧ (a + 1).toNat < 0xC000 := bounds_of_regionOf hr
  bv_omega

/-- What an instruction that stores to the addresses of the list makes of the BUS `b`: records, then the bytes in the list's
order. -/
inductive Stores (b : Bus) : List Word → Bus → Prop
  | none (l : List Anomaly) : Stores b [] (b.withRecords l)
  | byte (l : List Anomaly) (a : Word) (v : Byte) : Stores b [a] ((b.withRecords l).memWrite a v)
  | word (l : List Anomaly) (a : Word) (v w : Byte) :
    Stores b [a, a + 1] (((b.withRecords l).memWrite a v).memWrite (a + 1) w)

namespace Stores

variable {as : List Word} {b c d : Bus}

theorem refl (b : Bus) : Stores b [] b := .none b.anomaly

theorem record (b : Bus) (x : Anomaly) : Stores b [] (b.record x) := .none _

theorem afterRead (b : Bus) (a : Word) : Stores b [] (b.afterRead a) := by
  rw [b.afterRead_eq a]
  exact .none _

/-- Records before the stores are nothing more. -/
theorem trans (h : Stores b [] c) (h' : Stores c as d) : Stores b as d := by
  cases h
  cases h' with
  | none m => exact .none m
  | byte m a v => exact .byte m a v
  | word m a v w => exact .word m a v w

theorem eq_of_nil (h : Stores b as c) (has : as = []) : c = { b with anomaly := c.anomaly } := by
  subst has
  cases h
  rfl

/-- What none of the stores affects reads as before, gated and ungated. -/
theorem frame (h : Stores b as c) {x : Word} (hx : ∀ a ∈ as, b.writeAffects a.toNat x.toNat = false) :
    c.memRead x = b.memRead x ∧ c.get x.toNat = b.get x.toNat := by
  cases h with
  | none l => exact ⟨rfl, rfl⟩
  | byte l a v => exact (b.withRecords l).memWrite_frame v (hx a (by simp))
  | word l a v w =>
    obtain ⟨hread, hget⟩ := (b.withRecords l).memWrite_frame v (hx a (by simp))
    have hnext : ((b.withRecords l).memWrite a v).writeAffects (a + 1).toNat x.toNat = false :=
      (writeAffects_memWrite_next _ a _ v).trans (hx (a + 1) (by simp))
    obtain ⟨hread', hget'⟩ := memWrite_frame _ w hnext
    exact ⟨hread'.trans hread, hget'.trans hget⟩

end Stores

end Bus

/-! The operands and the stack. -/

/-- The address of an `r8` operand is HL's alone (R113). -/
theorem R8.storedAddrs_congr (r : R8) {s t : State} (h : t.cpu.hl = s.cpu.hl) : r.storedAddrs t = r.storedAddrs s := by
  cases r with
  | reg q => rfl
  | atHL => exact congrArg ([·]) h

namespace State

variable (s : State)

@[simp] theorem afterIndirect_bus (m : Indirect) : (s.afterIndirect m).bus = s.bus := by cases m <;> rfl

theorem noteR8_stores (r : R8) : s.bus.Stores [] (s.noteR8 r).bus := by
  cases r with
  | reg q => exact .refl _
  | atHL => exact .afterRead _ _

theorem noteAluSrc_stores (src : AluSrc) : s.bus.Stores [] (s.noteAluSrc src).bus := by
  cases src with
  | r8 r => exact s.noteR8_stores r
  | imm n => exact .refl _

theorem setR8_stores (r : R8) (v : Byte) : s.bus.Stores (r.storedAddrs s) (s.setR8 r v).bus := by
  cases r with
  | reg q => exact .refl _
  | atHL => exact .byte s.bus.anomaly s.cpu.hl v

/-- The shape of the operations that read an operand and write one. -/
theorem noteR8_setR8_stores (src d : R8) (v : Byte) : s.bus.Stores (d.storedAddrs s) ((s.noteR8 src).setR8 d v).bus := by
  have hd : d.storedAddrs (s.noteR8 src) = d.storedAddrs s := d.storedAddrs_congr (by rw [s.noteR8_cpu])
  exact (s.noteR8_stores src).trans (hd ▸ (s.noteR8 src).setR8_stores d v)

theorem push16_stores (v : Word) : s.bus.Stores (pushAddrs s) (s.push16 v).bus := .word s.bus.anomaly (s.cpu.sp - 2) _ _

theorem pop16_stores : s.bus.Stores [] s.pop16.2.bus := (Bus.Stores.afterRead _ _).trans (.afterRead _ _)

theorem fetch8_stores : s.bus.Stores [] s.fetch8.2.bus := .afterRead _ _

end State

/-! The instructions. -/

/-- Every form but 0xCB, which runs the extended table (R275). -/
theorem execForm_stores_of_ne_prefixCB {f : Form} (hf : f ≠ .prefixCB) {s t : State} (h : execForm f s = .next t) :
    s.bus.Stores (storedAddrs f s) t.bus := by
  cases f with
  | prefixCB => exact absurd rfl hf
  | nop | jpHl | di | halt | stop _ | ld16 _ _ | ldSpHl | daa | cpl | scf | ccf | addHl _ | inc16 _ | dec16 _ | addSp _ | ldHlSp _
  | rotA _ => cases h; exact .refl _
  | ei | jp _ _ | jr _ _ => cases h; split <;> exact .refl _
  | undefined op => cases h; exact .record _ _
  | ld8 d src => cases h; exact s.noteR8_setR8_stores src d _
  | ld8Imm d n => cases h; exact s.setR8_stores d n
  | loadA m =>
    cases h
    rw [State.tick_bus, State.afterIndirect_bus]
    exact .afterRead _ _
  | storeA m =>
    cases h
    rw [State.tick_bus, State.afterIndirect_bus]
    exact .byte s.bus.anomaly _ _
  | ldAbsSp nn => cases h; exact .word s.bus.anomaly nn _ _
  | push p => cases h; exact s.push16_stores _
  | pop p => cases h; exact s.pop16_stores
  | alu op src => cases h; exact s.noteAluSrc_stores src
  | inc8 r | dec8 r | rot _ r | res _ r | set _ r => cases h; exact s.noteR8_setR8_stores r r _
  | bit b r => cases h; exact s.noteR8_stores r
  | call cc nn =>
    cases h
    show s.bus.Stores (if taken cc s.cpu.f then pushAddrs s else []) (if taken cc s.cpu.f then _ else _ : State).bus
    split
    · exact s.push16_stores _
    · exact .refl _
  | ret _ =>
    cases h
    split
    · exact s.pop16_stores
    · exact .refl _
  | reti => cases h; exact s.pop16_stores
  | rst _ => cases h; exact s.push16_stores _

/-- An instruction of the extended table stores to its operand, unless it is `BIT` (R126, R237). -/
theorem storedAddrs_formOfExtended (op2 : Byte) {s t : State} (h : t.cpu.hl = s.cpu.hl) :
    storedAddrs (formOfExtended op2) t = extendedStoredAddrs op2 s := by
  have hr : (R8.ofField (fieldZ op2)).storedAddrs t = (R8.ofField (fieldZ op2)).storedAddrs s := R8.storedAddrs_congr _ h
  unfold formOfExtended extendedStoredAddrs
  split
  case h_1 hx => simp [storedAddrs, hx, hr]
  case h_2 hx => simp [storedAddrs, hx]
  case h_3 hx => simp [storedAddrs, hx, hr]
  case h_4 hx _ =>
    have hbit : ¬ fieldX op2 = 1 := hx
    simp [storedAddrs, hbit, hr]

theorem execForm_stores {f : Form} {s t : State} (h : execForm f s = .next t) : s.bus.Stores (storedAddrs f s) t.bus := by
  by_cases hf : f = .prefixCB
  · subst hf
    rw [execForm_prefixCB] at h
    have hext := execForm_stores_of_ne_prefixCB (formOfExtended_ne_prefixCB _) h
    rw [storedAddrs_formOfExtended _ rfl] at hext
    exact s.fetch8_stores.trans hext
  · exact execForm_stores_of_ne_prefixCB hf h

/-- Settles O24: an instruction's effect on the BUS is its stores, and each of them has the frame of a CPU write. -/
theorem memoryFrame : Obligations.MemoryFrame := by
  intro i s t h
  have hstores := execForm_stores (exec_eq_execForm i s ▸ h)
  exact ⟨fun x hx => hstores.frame hx, hstores.eq_of_nil⟩

end Sys2Proof.Machine
end

section
/-! SUPPORT. The decoder and the encoder (R110 to R128): what each row of the opcode grids is encoded by, and that decoding and
encoding undo each other. -/

namespace Sys2Proof

open Machine (mkWord loByte hiByte mkWord_hiByte_loByte hiByte_mkWord loByte_mkWord)

/-! The opcode as a row and a column of its grid (R124, R126): what all 256 cells have, every opcode has. -/

theorem forall_opcode {P : Byte → Prop} (cell : ∀ row < 16, ∀ col < 16, P (BitVec.ofNat 8 (16 * row + col))) (op : Byte) :
    P op := by
  have hop : BitVec.ofNat 8 (16 * (op.toNat / 16) + op.toNat % 16) = op := by
    rw [Nat.div_add_mod]
    simp
  exact hop ▸ cell (op.toNat / 16) (by omega) (op.toNat % 16) (by omega)

/-- The bytes after a primary opcode (R110), `n` and `nn` being what its row was given for them. -/
def primaryOperands (op n : Byte) (nn : Word) : List Byte :=
  if op = 0xCB then []
  else
    match instrLength op with
    | 1 => []
    | 2 => [n]
    | _ => [loByte nn, hiByte nn]

theorem encode_decodePrimary (op n : Byte) (nn : Word) : encode (decodePrimary op n nn) = op :: primaryOperands op n nn := by
  induction op using forall_opcode with
  | cell row hrow col hcol => interval_cases row <;> interval_cases col <;> rfl

theorem encode_decodeExtended (op2 : Byte) : encode (decodeExtended op2) = [0xCB, op2] := by
  induction op2 using forall_opcode with
  | cell row hrow col hcol => interval_cases row <;> interval_cases col <;> rfl

theorem form_decodePrimary (op n : Byte) (nn : Word) : (decodePrimary op n nn).form = formOfPrimary op n nn := by
  induction op using forall_opcode with
  | cell row hrow col hcol => interval_cases row <;> interval_cases col <;> rfl

theorem form_decodeExtended (op2 : Byte) : (decodeExtended op2).form = formOfExtended op2 := by
  induction op2 using forall_opcode with
  | cell row hrow col hcol => interval_cases row <;> interval_cases col <;> rfl

/-! One equation of the decoder for each length of a primary opcode (R110). -/

theorem instrLength_cases (op : Byte) : instrLength op = 1 ∨ instrLength op = 2 ∨ instrLength op = 3 := by
  unfold instrLength
  split
  · simp
  · split <;> simp

section
variable {op : Byte}

theorem ne_prefix_of_length (h : instrLength op ≠ 2) : ¬ op = 0xCB := fun hop => h (hop ▸ rfl)

theorem decode_of_length_one (h : instrLength op = 1) (rest : List Byte) :
    decode (op :: rest) = .ok (decodePrimary op 0 0, rest) := by
  have hop : ¬ op = 0xCB := ne_prefix_of_length (by omega)
  simp only [decode, if_neg hop, if_pos h]

theorem decode_of_length_two (hop : ¬ op = 0xCB) (h : instrLength op = 2) (n : Byte) (rest : List Byte) :
    decode (op :: n :: rest) = .ok (decodePrimary op n 0, rest) := by
  have h1 : ¬ instrLength op = 1 := by omega
  simp only [decode, if_neg hop, if_neg h1, if_pos h]

theorem decode_of_length_three (h : instrLength op = 3) (nn : Word) (rest : List Byte) :
    decode (op :: loByte nn :: hiByte nn :: rest) = .ok (decodePrimary op 0 nn, rest) := by
  have hop : ¬ op = 0xCB := ne_prefix_of_length (by omega)
  have h1 : ¬ instrLength op = 1 := by omega
  have h2 : ¬ instrLength op = 2 := by omega
  simp only [decode, if_neg hop, if_neg h1, if_neg h2, mkWord_hiByte_loByte]

theorem primaryOperands_of_length_one (h : instrLength op = 1) (n : Byte) (nn : Word) : primaryOperands op n nn = [] := by
  simp only [primaryOperands, if_neg (ne_prefix_of_length (by omega : instrLength op ≠ 2)), h]

theorem primaryOperands_of_length_two (hop : ¬ op = 0xCB) (h : instrLength op = 2) (n : Byte) (nn : Word) :
    primaryOperands op n nn = [n] := by
  simp only [primaryOperands, if_neg hop, h]

theorem primaryOperands_of_length_three (h : instrLength op = 3) (n : Byte) (nn : Word) :
    primaryOperands op n nn = [loByte nn, hiByte nn] := by
  simp only [primaryOperands, if_neg (ne_prefix_of_length (by omega : instrLength op ≠ 2)), h]

end

/-! Decoding what was encoded. -/

theorem wellFormed_iff {i : Instr} : WellFormed i ↔ i ≠ .prefix_CB := by simp [WellFormed, Instr.wellFormed]

/-- The decoder gives back every instruction; what it needs of the 17 with a word is that the word's halves make the word. -/
theorem decode_encode_append (i : Instr) (rest : List Byte) (hi : WellFormed i) :
    decode (encode i ++ rest) = .ok (i, rest) := by
  cases i with
  | prefix_CB => exact absurd hi (by decide)
  | ld_BC_nn nn | ld_DE_nn nn | ld_HL_nn nn | ld_SP_nn nn | ld_atNN_SP nn | ld_atNN_A nn | ld_A_atNN nn | jp_nn nn
  | jp_NZ_nn nn | jp_Z_nn nn | jp_NC_nn nn | jp_C_nn nn | call_nn nn | call_NZ_nn nn | call_Z_nn nn | call_NC_nn nn
  | call_C_nn nn => exact decode_of_length_three rfl nn rest
  | _ => rfl

/-- Settles O1, by cases on the instruction. -/
theorem encodeThenDecode : Obligations.EncodeThenDecode := decode_encode_append

theorem decode_encode (i : Instr) : decode (encode i) = .ok (i, []) := by
  by_cases hi : i = .prefix_CB
  · subst hi
    rfl
  · simpa using decode_encode_append i [] (wellFormed_iff.mpr hi)

theorem encode_injective {i j : Instr} (h : encode i = encode j) : i = j := by
  have hij : Except.ok (i, []) = Except.ok (j, []) := (decode_encode i).symm.trans (h ▸ decode_encode j)
  cases hij
  rfl

/-! Encoding what was decoded. -/

theorem encode_decodeBytes (op b1 b2 : Byte) : encode (decodeBytes op b1 b2) = [op, b1, b2].take (instrLength op) := by
  by_cases hop : op = 0xCB
  · subst hop
    exact encode_decodeExtended b1
  · rw [decodeBytes, if_neg hop, encode_decodePrimary]
    rcases instrLength_cases op with h | h | h
    · rw [primaryOperands_of_length_one h, h]; rfl
    · rw [primaryOperands_of_length_two hop h, h]; rfl
    · rw [primaryOperands_of_length_three h, h, hiByte_mkWord, loByte_mkWord]; rfl

theorem encode_append_of_decode {bytes rest : List Byte} {i : Instr} (h : decode bytes = .ok (i, rest)) :
    encode i ++ rest = bytes := by
  unfold decode at h
  split at h
  · cases h
  · next op more =>
    split at h
    · next hop =>
      split at h
      · cases h; rw [hop]; rfl
      · cases h; rw [hop, encode_decodeExtended]; rfl
    · next hop =>
      split at h
      · next h1 => cases h; rw [encode_decodePrimary, primaryOperands_of_length_one h1]; rfl
      · split at h
        · next h2 =>
          split at h
          · cases h; rw [encode_decodePrimary, primaryOperands_of_length_two hop h2]; rfl
          · cases h
        · next h1 h2 =>
          have h3 : instrLength op = 3 := by have := instrLength_cases op; omega
          split at h
          · cases h; rw [encode_decodePrimary, primaryOperands_of_length_three h3, hiByte_mkWord, loByte_mkWord]; rfl
          · cases h

theorem decodeExtended_ne_prefix_CB (op2 : Byte) : decodeExtended op2 ≠ .prefix_CB := fun h => by
  have hbytes := encode_decodeExtended op2
  rw [h] at hbytes
  cases hbytes

/-- With a byte after 0xCB the extended table answers, which has no such row (R126, R128). -/
theorem decode_eq_prefix_CB_iff {bytes rest : List Byte} {i : Instr} (h : decode bytes = .ok (i, rest)) :
    i = .prefix_CB ↔ bytes = [0xCB] := by
  constructor
  · rintro rfl
    obtain rfl : 0xCB :: rest = bytes := encode_append_of_decode h
    cases rest with
    | nil => rfl
    | cons op2 more =>
      have hext : Except.ok (decodeExtended op2, more) = Except.ok (Instr.prefix_CB, op2 :: more) := h
      exact absurd (congrArg Prod.fst (Except.ok.inj hext)) (decodeExtended_ne_prefix_CB op2)
  · rintro rfl
    cases h
    rfl

/-- Settles O2: each branch of the decoder answers a row of a grid, which is encoded by the bytes that the branch took. -/
theorem decodeThenEncode : Obligations.DecodeThenEncode := fun _bytes _rest _i h =>
  ⟨encode_append_of_decode h, wellFormed_iff.trans (decode_eq_prefix_CB_iff h).not⟩

/-! Decoding by fields. -/

theorem form_decodeBytes (op b1 b2 : Byte) : (decodeBytes op b1 b2).form = formOfBytes op b1 b2 := by
  unfold decodeBytes formOfBytes
  split
  · exact form_decodeExtended b1
  · exact form_decodePrimary op b1 (mkWord b2 b1)

/-- Settles O3, by the 256 cells of each grid. -/
theorem gridAgreesWithFields : Obligations.GridAgreesWithFields := form_decodeBytes

/-! Decoding when all the bytes are there. -/

/-- A row looks at its own operand bytes only (R110). -/
theorem decodePrimary_congr {op n n' : Byte} {nn nn' : Word} (h : primaryOperands op n nn = primaryOperands op n' nn') :
    decodePrimary op n nn = decodePrimary op n' nn' :=
  encode_injective (by rw [encode_decodePrimary, encode_decodePrimary, h])

/-- The bytes past the instruction's length are not looked at (R128). -/
theorem decodeBytes_congr {op b1 b2 c1 c2 : Byte} (h : [op, b1, b2].take (instrLength op) = [op, c1, c2].take (instrLength op)) :
    decodeBytes op b1 b2 = decodeBytes op c1 c2 :=
  encode_injective (by rw [encode_decodeBytes, encode_decodeBytes, h])

theorem decode_three_bytes (op b1 b2 : Byte) (rest : List Byte) :
    decode (op :: b1 :: b2 :: rest) = .ok (decodeBytes op b1 b2, (op :: b1 :: b2 :: rest).drop (instrLength op)) := by
  by_cases hop : op = 0xCB
  · subst hop
    rfl
  · rw [decodeBytes, if_neg hop]
    rcases instrLength_cases op with h | h | h
    · have hrow : decodePrimary op 0 0 = decodePrimary op b1 (mkWord b2 b1) :=
        decodePrimary_congr (by simp [primaryOperands_of_length_one h])
      rw [decode_of_length_one h, h, hrow]
      rfl
    · have hrow : decodePrimary op b1 0 = decodePrimary op b1 (mkWord b2 b1) :=
        decodePrimary_congr (by simp [primaryOperands_of_length_two hop h])
      rw [decode_of_length_two hop h, h, hrow]
      rfl
    · have hrow : decodePrimary op 0 (mkWord b2 b1) = decodePrimary op b1 (mkWord b2 b1) :=
        decodePrimary_congr (by simp [primaryOperands_of_length_three h])
      have hdecode := decode_of_length_three h (mkWord b2 b1) rest
      rw [loByte_mkWord, hiByte_mkWord, hrow] at hdecode
      rw [hdecode, h]
      rfl

theorem encode_decodeBytes_length (op b1 b2 : Byte) : (encode (decodeBytes op b1 b2)).length = instrLength op := by
  have := instrLength_cases op
  rw [encode_decodeBytes, List.length_take, List.length_cons, List.length_cons, List.length_singleton]
  omega

theorem wellFormed_decodeBytes (op b1 b2 : Byte) : WellFormed (decodeBytes op b1 b2) :=
  wellFormed_iff.mpr fun h => by cases (decode_eq_prefix_CB_iff (decode_three_bytes op b1 b2 [])).mp h

/-- Settles O4: with three bytes there the decoder answers `decodeBytes`, whose encoding is as long as the first byte says. -/
theorem decodingIsTotal : Obligations.DecodingIsTotal := by
  intro op b1 b2 rest
  have hlen := instrLength_cases op
  exact ⟨⟨by omega, by omega, fun hop => hop ▸ rfl⟩, decodeBytes op b1 b2, decode_three_bytes op b1 b2 rest,
    wellFormed_decodeBytes op b1 b2, encode_decodeBytes_length op b1 b2, form_decodeBytes op b1 b2⟩

/-- Settles O5: the decoder is run on each word. -/
theorem spelledWordsDecode : Obligations.SpelledWordsDecode :=
  ⟨rfl, rfl, rfl, rfl, rfl, rfl, rfl, rfl, rfl, rfl, rfl, rfl, rfl, rfl, rfl⟩

end Sys2Proof
end

section
/-! SUPPORT. Jumps (R250 to R254): the meaning of each with its condition known. -/

namespace Sys2Proof.Machine

/-- `sext_16` is the sign extension of bit vectors (R11). -/
theorem sext16_eq_signExtend (e : Byte) : sext16 e = e.signExtend 16 := by
  apply BitVec.eq_of_toNat_eq
  rw [BitVec.toNat_signExtend, BitVec.msb_eq_decide, sext16]
  by_cases he : e.toNat < 0x80
  · have hm : ¬ 128 ≤ e.toNat := by omega
    simp [he, hm]
  · have hm : 128 ≤ e.toNat := by omega
    simp [he, hm]
    omega

theorem encode_of_form {i : Instr} {f : Form} (h : i.form = f) : encode i = f.bytes := h ▸ encode_eq_bytes i

theorem exec_of_form {i : Instr} {f : Form} (h : i.form = f) (s : State) : exec i s = execForm f s := h ▸ exec_eq_execForm i s

section
variable {cc : Cond} {s : State}

theorem doJp_of_holds (h : cc.holds s.cpu.f = true) (nn : Word) :
    doJp (some cc) nn s = .next { s with cpu := { s.cpu with pc := nn }, cycles := s.cycles + 16 } := by
  rw [doJp, taken, if_pos h]; rfl

theorem doJp_of_not_holds (h : ¬ cc.holds s.cpu.f = true) (nn : Word) :
    doJp (some cc) nn s = .next { s with cycles := s.cycles + 12 } := by
  rw [doJp, taken, if_neg h]; rfl

theorem doJr_of_holds (h : cc.holds s.cpu.f = true) (e : Byte) :
    doJr (some cc) e s =
      .next { s with cpu := { s.cpu with pc := s.cpu.pc + e.signExtend 16 }, cycles := s.cycles + 12 } := by
  rw [doJr, taken, if_pos h, sext16_eq_signExtend]; rfl

theorem doJr_of_not_holds (h : ¬ cc.holds s.cpu.f = true) (e : Byte) :
    doJr (some cc) e s = .next { s with cycles := s.cycles + 8 } := by
  rw [doJr, taken, if_neg h]; rfl

end

/-- Settles O19: each jump is the operation of its form, with the condition true or false. -/
theorem jumps : Obligations.Jumps := by
  refine ⟨fun f => ⟨rfl, rfl, rfl, rfl⟩, fun s => ⟨fun nn => ⟨rfl, rfl⟩, fun i cc nn hi => ?_, ⟨rfl, rfl⟩, fun e => ⟨rfl, ?_⟩,
    fun i cc e hi => ?_⟩⟩
  · refine ⟨encode_of_form hi, ?_⟩
    split
    · next h => exact (exec_of_form hi s).trans (doJp_of_holds h nn)
    · next h => exact (exec_of_form hi s).trans (doJp_of_not_holds h nn)
  · rw [← sext16_eq_signExtend]
    rfl
  · refine ⟨encode_of_form hi, ?_⟩
    split
    · next h => exact (exec_of_form hi s).trans (doJr_of_holds h e)
    · next h => exact (exec_of_form hi s).trans (doJr_of_not_holds h e)

end Sys2Proof.Machine
end

section
/-! SUPPORT. The fetch (R128, R300): it reads the bytes of the instruction that the three bytes at PC begin. -/

namespace Sys2Proof.Machine

namespace State

variable (s : State)

/-- The state after the fetch of `n` bytes: PC is past them and their reads are noted. -/
def pastBytes (n : Nat) : State :=
  { s with
    cpu := { s.cpu with pc := s.cpu.pc + BitVec.ofNat 16 n },
    bus := (List.range n).foldl (fun b k => b.afterRead (s.cpu.pc + BitVec.ofNat 16 k)) s.bus }

theorem pastBytes_zero : s.pastBytes 0 = s := by simp [pastBytes]

theorem pastBytes_memRead (n : Nat) (a : Word) : (s.pastBytes n).bus.memRead a = s.bus.memRead a := by
  induction n with
  | zero => rw [pastBytes_zero]
  | succ n ih => simpa [pastBytes, List.range_succ] using ih

/-- One more byte of the fetch (R11, R78). -/
theorem fetch8_pastBytes (n : Nat) :
    (s.pastBytes n).fetch8 = (s.bus.memRead (s.cpu.pc + BitVec.ofNat 16 n), s.pastBytes (n + 1)) := by
  refine Prod.ext (s.pastBytes_memRead n _) ?_
  simp [fetch8, pastBytes, List.range_succ, BitVec.ofNat_add, BitVec.add_assoc, setPc, setCpu, noteRead, setBus]

/-- The fetch reads no byte past the instruction, and those bytes do not matter to what it is. -/
theorem fetchInstr_eq :
    s.fetchInstr =
      (decodeBytes (s.bus.memRead s.cpu.pc) (s.bus.memRead (s.cpu.pc + 1)) (s.bus.memRead (s.cpu.pc + 2)),
        s.pastBytes (instrLength (s.bus.memRead s.cpu.pc))) := by
  have h0 : s.fetch8 = (s.bus.memRead s.cpu.pc, s.pastBytes 1) := by
    simpa [pastBytes_zero] using s.fetch8_pastBytes 0
  simp only [fetchInstr, h0, fetch8_pastBytes]
  generalize s.bus.memRead s.cpu.pc = op
  rcases instrLength_cases op with h | h | h
  · simp only [h, if_true]
    exact Prod.ext (decodeBytes_congr (by simp [h])) rfl
  · simp only [h, if_true]
    exact Prod.ext (decodeBytes_congr (by simp [h])) rfl
  · simp only [h]
    rfl

end State

/-- Settles O29: the fetched instruction is the one that the three bytes at PC decode to, and the step does with its next state
what `step_cases` says. -/
theorem stepRunsDecodedInstruction : Obligations.StepRunsDecodedInstruction := by
  rintro s t i rest rfl hhalted hstopped hdecode
  rw [decode_three_bytes] at hdecode
  cases hdecode
  obtain ⟨v, hstep, -⟩ := step_next_cycles s
  obtain ⟨u, hrun, -, rfl⟩ := step_cases hstep
  refine ⟨u, ?_, hstep⟩
  rw [State.runInstr, if_neg (by simp [hhalted, hstopped]), State.fetchInstr_eq] at hrun
  rw [encode_decodeBytes_length]
  exact hrun

end Sys2Proof.Machine
end

section
/-! SUPPORT. The 8-bit loads (40_load8.md): the next state of each shared operation, and from it the statements. -/

namespace Sys2Proof.Machine

/-! The operand forms of the byte loads (R140 to R144). An address is the HL that the meaning is given, also where H or L is the
destination. -/

theorem doLd8_reg_reg (dst src : Reg8) (s : State) :
    doLd8 (.reg dst) (.reg src) s = .next { s with cpu := s.cpu.setReg dst (s.cpu.reg src), cycles := s.cycles + 4 } := rfl

theorem doLd8_reg_atHL (dst : Reg8) (s : State) :
    doLd8 (.reg dst) .atHL s = .next { s with
      cpu := s.cpu.setReg dst (s.bus.memRead s.cpu.hl), bus := s.bus.afterRead s.cpu.hl, cycles := s.cycles + 8 } := rfl

theorem doLd8_atHL_reg (src : Reg8) (s : State) :
    doLd8 .atHL (.reg src) s = .next { s with bus := s.bus.memWrite s.cpu.hl (s.cpu.reg src), cycles := s.cycles + 8 } := rfl

theorem doLd8Imm_reg (dst : Reg8) (n : Byte) (s : State) :
    doLd8Imm (.reg dst) n s = .next { s with cpu := s.cpu.setReg dst n, cycles := s.cycles + 8 } := rfl

theorem doLd8Imm_atHL (n : Byte) (s : State) :
    doLd8Imm .atHL n s = .next { s with bus := s.bus.memWrite s.cpu.hl n, cycles := s.cycles + 12 } := rfl

theorem bytes_ld8_reg_atHL (dst : Reg8) : (Form.ld8 (.reg dst) .atHL).bytes = [BitVec.ofNat 8 (0x46 + 8 * dst.code)] := by
  have hop : 0x40 + 8 * dst.code + 6 = 0x46 + 8 * dst.code := by omega
  rw [← hop]
  rfl

/-- `LD (HL),(HL)` is no instruction: its opcode would be 0x76, which is HALT's (R143). -/
theorem form_ne_ld8_atHL_atHL (i : Instr) : i.form ≠ .ld8 .atHL .atHL := by
  intro h
  obtain rfl : i = .halt := encode_injective (encode_of_form h)
  cases h

/-- Settles O6: each byte load is the operation of its form. -/
theorem byteLoads : Obligations.ByteLoads :=
  ⟨fun _ dst src s h => ⟨encode_of_form h, (exec_of_form h s).trans (doLd8_reg_reg dst src s)⟩,
    fun _ dst n s h => ⟨encode_of_form h, (exec_of_form h s).trans (doLd8Imm_reg dst n s)⟩,
    fun _ dst s h => ⟨(encode_of_form h).trans (bytes_ld8_reg_atHL dst), (exec_of_form h s).trans (doLd8_reg_atHL dst s)⟩,
    fun _ src s h => ⟨encode_of_form h, (exec_of_form h s).trans (doLd8_atHL_reg src s)⟩,
    fun _ n s h => ⟨encode_of_form h, (exec_of_form h s).trans (doLd8Imm_atHL n s)⟩,
    form_ne_ld8_atHL_atHL⟩

/-! The loads and stores of A (R145 to R158): the address is formed before HL is stepped, and the step changes H and L only. -/

section
variable {i : Instr} {m : Indirect}

/-- The bytes and the next state of a load of A, for every way to form the address. -/
theorem encode_exec_of_loadA (h : i.form = .loadA m) (s : State) :
    encode i = (Form.loadA m).bytes ∧
    exec i s = .next { s with
      cpu := { (s.afterIndirect m).cpu with a := s.bus.memRead (s.indirectAddr m) },
      bus := s.bus.afterRead (s.indirectAddr m), cycles := s.cycles + accCycles m } := by
  refine ⟨encode_of_form h, (exec_of_form h s).trans ?_⟩
  cases m <;> rfl

/-- The bytes and the next state of a store of A, for every way to form the address. -/
theorem encode_exec_of_storeA (h : i.form = .storeA m) (s : State) :
    encode i = (Form.storeA m).bytes ∧
    exec i s = .next { s with
      cpu := (s.afterIndirect m).cpu,
      bus := s.bus.memWrite (s.indirectAddr m) s.cpu.a, cycles := s.cycles + accCycles m } := by
  refine ⟨encode_of_form h, (exec_of_form h s).trans ?_⟩
  cases m <;> rfl

end

/-- Settles O7: each load of A is the load of its addressing form. -/
theorem accumulatorLoads : Obligations.AccumulatorLoads := fun _ s =>
  ⟨fun h => encode_exec_of_loadA (m := .bc) (congrArg Instr.form h) s,
    fun h => encode_exec_of_loadA (m := .de) (congrArg Instr.form h) s,
    fun nn h => encode_exec_of_loadA (m := .abs nn) (congrArg Instr.form h) s,
    fun n h => encode_exec_of_loadA (m := .high n) (congrArg Instr.form h) s,
    fun h => encode_exec_of_loadA (m := .highC) (congrArg Instr.form h) s,
    fun h => encode_exec_of_loadA (m := .hlInc) (congrArg Instr.form h) s,
    fun h => encode_exec_of_loadA (m := .hlDec) (congrArg Instr.form h) s⟩

/-- Settles O8: each store of A is the store of its addressing form. -/
theorem accumulatorStores : Obligations.AccumulatorStores := fun _ s =>
  ⟨fun h => encode_exec_of_storeA (m := .bc) (congrArg Instr.form h) s,
    fun h => encode_exec_of_storeA (m := .de) (congrArg Instr.form h) s,
    fun nn h => encode_exec_of_storeA (m := .abs nn) (congrArg Instr.form h) s,
    fun n h => encode_exec_of_storeA (m := .high n) (congrArg Instr.form h) s,
    fun h => encode_exec_of_storeA (m := .highC) (congrArg Instr.form h) s,
    fun h => encode_exec_of_storeA (m := .hlInc) (congrArg Instr.form h) s,
    fun h => encode_exec_of_storeA (m := .hlDec) (congrArg Instr.form h) s⟩

end Sys2Proof.Machine
end

section
/-! SUPPORT. The 16-bit loads and the stack (41_load16_stack.md): the next state of each shared operation, and from it the
statements. -/

namespace Sys2Proof.Machine

theorem doLd16_eq (p : R16) (nn : Word) (s : State) :
    doLd16 p nn s = .next { s with cpu := s.cpu.setReg16 p nn, cycles := s.cycles + 12 } := rfl

theorem doLdAbsSp_eq (nn : Word) (s : State) :
    doLdAbsSp nn s = .next { s with
      bus := (s.bus.memWrite nn (loByte s.cpu.sp)).memWrite (nn + 1) (hiByte s.cpu.sp), cycles := s.cycles + 20 } := rfl

theorem doLdSpHl_eq (s : State) :
    doLdSpHl s = .next { s with cpu := { s.cpu with sp := s.cpu.hl }, cycles := s.cycles + 8 } := rfl

/-- Settles O9: each of the three is the operation of its form. -/
theorem wordLoads : Obligations.WordLoads :=
  ⟨fun _ p nn s h => ⟨encode_of_form h, s.cpu.reg16_setReg16_same p nn, (exec_of_form h s).trans (doLd16_eq p nn s)⟩,
    fun _ nn s h => h ▸ ⟨rfl, doLdAbsSp_eq nn s⟩,
    fun _ s h => h ▸ ⟨rfl, doLdSpHl_eq s⟩⟩

/-! The stack (R173 to R175). -/

/-- The byte above the new SP is the one below the old SP (R24, R173). -/
theorem sp_sub_two_add_one (sp : Word) : sp - 2 + 1 = sp - 1 := by bv_omega

theorem doPush_eq (p : R16Stk) (s : State) :
    doPush p s = .next { s with
      cpu := { s.cpu with sp := s.cpu.sp - 2 },
      bus := (s.bus.memWrite (s.cpu.sp - 2) (loByte (s.cpu.stk p))).memWrite (s.cpu.sp - 1) (hiByte (s.cpu.stk p)),
      cycles := s.cycles + 16 } := by
  rw [← sp_sub_two_add_one]
  rfl

/-- The word on top of the stack, low byte first (R72); the record of the first read does not show in the second. -/
@[simp] theorem State.pop16_word (s : State) :
    s.pop16.1 = mkWord (s.bus.memRead (s.cpu.sp + 1)) (s.bus.memRead s.cpu.sp) :=
  congrArg (mkWord · _) (s.bus.afterRead_memRead s.cpu.sp (s.cpu.sp + 1))

theorem doPop_eq (p : R16Stk) (s : State) :
    doPop p s = .next { s with
      cpu := { s.cpu with sp := s.cpu.sp + 2 }.setStk p (mkWord (s.bus.memRead (s.cpu.sp + 1)) (s.bus.memRead s.cpu.sp)),
      bus := (s.bus.afterRead s.cpu.sp).afterRead (s.cpu.sp + 1), cycles := s.cycles + 12 } := by
  rw [← s.pop16_word]
  rfl

/-- Settles O10: each is the operation of its form, and the pair that `POP` writes is the word's two bytes. -/
theorem pushAndPop : Obligations.PushAndPop := by
  refine ⟨fun i p s h => ⟨encode_of_form h, (exec_of_form h s).trans (doPush_eq p s)⟩,
    fun i p s h => ⟨encode_of_form h, (exec_of_form h s).trans ((doPop_eq p s).trans ?_)⟩⟩
  cases p <;> simp [Cpu.setStk, Cpu.setHl]

end Sys2Proof.Machine
end

section
/-! SUPPORT. 8-bit arithmetic and logic (42_alu8.md): the flags and the results as arithmetic on bytes, the next state of each
shared operation, and from them the statements. -/

namespace Sys2Proof.Machine

/-! Bytes and flags. The model computes on unbounded integers and narrows at the end (R10, R202); narrowing commutes with sum
and difference. -/

theorem flagsAre_flagsOf (z n h c : Bool) : FlagsAre (flagsOf z n h c) z n h c := by
  unfold FlagsAre
  revert z n h c
  decide

theorem ofNat_toNat_self {w : Nat} (x : BitVec w) : BitVec.ofNat w x.toNat = x :=
  (BitVec.ofNat_toNat w x).trans (BitVec.setWidth_eq x)

theorem ofInt_toNat_self {w : Nat} (x : BitVec w) : BitVec.ofInt w x.toNat = x :=
  (BitVec.ofInt_natCast w x.toNat).trans (ofNat_toNat_self x)

theorem ofInt_sub {w : Nat} (x y : Int) : BitVec.ofInt w (x - y) = BitVec.ofInt w x - BitVec.ofInt w y := by
  rw [Int.sub_eq_add_neg, BitVec.ofInt_add, BitVec.ofInt_neg, ← BitVec.sub_eq_add_neg]

theorem ofNat_toNat_bool (x : Bool) : BitVec.ofNat 8 x.toNat = bitByte x := by cases x <;> rfl

theorem ofInt_toNat_bool (x : Bool) : BitVec.ofInt 8 x.toNat = bitByte x := by cases x <;> rfl

theorem mod_eq_zero_iff_ofNat (n : Nat) : n % 256 = 0 ↔ BitVec.ofNat 8 n = 0 := by
  rw [← BitVec.toNat_inj]
  rfl

theorem aluAdd_eq (a v : Byte) :
    aluAdd a v = ⟨a + v,
      flagsOf (a + v = 0) false (a.toNat % 16 + v.toNat % 16 > 15) (a.toNat + v.toNat > 255)⟩ := by
  simp only [aluAdd, mod_eq_zero_iff_ofNat, BitVec.ofNat_add, ofNat_toNat_self]

theorem aluAdc_eq (a v : Byte) (ci : Bool) :
    aluAdc a v ci = ⟨a + v + bitByte ci,
      flagsOf (a + v + bitByte ci = 0) false (a.toNat % 16 + v.toNat % 16 + ci.toNat > 15)
        (a.toNat + v.toNat + ci.toNat > 255)⟩ := by
  simp only [aluAdc, mod_eq_zero_iff_ofNat, BitVec.ofNat_add, ofNat_toNat_self, ofNat_toNat_bool]

theorem aluSub_eq (a v : Byte) :
    aluSub a v = ⟨a - v, flagsOf (a = v) true (a.toNat % 16 < v.toNat % 16) (a.toNat < v.toNat)⟩ := by
  simp only [aluSub, ofInt_sub, ofInt_toNat_self]

theorem aluSbc_eq (a v : Byte) (ci : Bool) :
    aluSbc a v ci = ⟨a - v - bitByte ci,
      flagsOf (a - v - bitByte ci = 0) true (a.toNat % 16 < v.toNat % 16 + ci.toNat)
        (a.toNat < v.toNat + ci.toNat)⟩ := by
  simp only [aluSbc, ofInt_sub, ofInt_toNat_self, ofInt_toNat_bool]

theorem inc8_eq (v f : Byte) : inc8 v f = ⟨v + 1, flagsOf (v + 1 = 0) false (v.toNat % 16 = 15) (fC f)⟩ := by
  simp only [inc8, BitVec.ofNat_add, ofNat_toNat_self]
  rfl

theorem dec8_eq (v f : Byte) : dec8 v f = ⟨v - 1, flagsOf (v - 1 = 0) true (v.toNat % 16 = 0) (fC f)⟩ := by
  simp only [dec8, ofInt_sub, ofInt_toNat_self]
  rfl

theorem cplOut_eq (a f : Byte) : cplOut a f = ⟨~~~a, flagsOf (fZ f) true true (fC f)⟩ := by
  rw [← BitVec.xor_allOnes]
  rfl

/-! The accumulator operations (R185 to R193). -/

theorem bytes_alu (op : AluOp) (src : AluSrc) : (Form.alu op src).bytes = src.encoding op := by
  rcases src with ⟨_ | _⟩ | _
  · rfl
  · cases op <;> rfl
  · rfl

theorem doAlu_eq (op : AluOp) (src : AluSrc) (s : State) :
    doAlu op src s = .next { s with
      cpu := { s.cpu with
        a := (op.compute s.cpu.a (s.aluSrc src) s.cpu.f).value, f := (op.compute s.cpu.a (s.aluSrc src) s.cpu.f).f },
      bus := (s.noteAluSrc src).bus, cycles := s.cycles + aluCost src } := by
  rcases src with ⟨_ | _⟩ | _ <;> rfl

section
variable {i : Instr} {op : AluOp} {src : AluSrc}

theorem encode_of_alu (h : i.form = .alu op src) : encode i = src.encoding op :=
  (encode_of_form h).trans (bytes_alu op src)

/-- The bytes and the next state of an accumulator operation, from its result and its four flags. -/
theorem encode_exec_of_alu {s : State} {res : Byte} {z n hc c : Bool} (h : i.form = .alu op src)
    (hout : op.compute s.cpu.a (s.aluSrc src) s.cpu.f = ⟨res, flagsOf z n hc c⟩) :
    encode i = src.encoding op ∧ ∃ f, FlagsAre f z n hc c ∧
      exec i s = .next { s with
        cpu := { s.cpu with a := res, f := f }, bus := (s.noteAluSrc src).bus, cycles := s.cycles + aluCost src } := by
  refine ⟨encode_of_alu h, flagsOf z n hc c, flagsAre_flagsOf z n hc c, ?_⟩
  rw [exec_of_form h, execForm, doAlu_eq, hout]

end

/-- Settles O12: the result and flags of each operation on unbounded integers are those of byte arithmetic. -/
theorem accumulatorArithmetic : Obligations.AccumulatorArithmetic := fun _ _ _ =>
  ⟨fun h => encode_exec_of_alu h (aluAdd_eq _ _), fun h => encode_exec_of_alu h (aluAdc_eq _ _ _),
    fun h => encode_exec_of_alu h (aluSub_eq _ _), fun h => encode_exec_of_alu h (aluSbc_eq _ _ _),
    fun h => encode_exec_of_alu h rfl⟩

/-- Settles O11: an operand's value, cost and reads are those of its form. -/
theorem accumulatorOperands : Obligations.AccumulatorOperands :=
  ⟨fun _ _ r s h => ⟨encode_of_alu h, (encode_of_alu h).symm, rfl, s.r8_reg r, rfl⟩,
    fun _ _ s h => ⟨encode_of_alu h, (encode_of_alu h).symm, rfl, s.r8_atHL, rfl⟩,
    fun _ _ n s h => ⟨encode_of_alu h, (encode_of_alu h).symm, rfl, s.aluSrc_imm n, rfl⟩⟩

/-- Settles O13: the three are computed on bytes as they are. -/
theorem accumulatorLogic : Obligations.AccumulatorLogic := fun _ _ _ =>
  ⟨fun h => encode_exec_of_alu h rfl, fun h => encode_exec_of_alu h rfl, fun h => encode_exec_of_alu h rfl⟩

/-! `INC` and `DEC` of a byte (R194 to R197): the flags come from the value read. -/

section
variable {i : Instr} {r : R8}

theorem exec_of_inc8 (h : i.form = .inc8 r) (s : State) :
    exec i s = .next ((((s.noteR8 r).setR8 r (s.r8 r + 1)).setF
      (flagsOf (s.r8 r + 1 = 0) false ((s.r8 r).toNat % 16 = 15) (fC s.cpu.f))).tick (incCycles r)) := by
  rw [exec_of_form h, execForm, doInc8, inc8_eq]

theorem exec_of_dec8 (h : i.form = .dec8 r) (s : State) :
    exec i s = .next ((((s.noteR8 r).setR8 r (s.r8 r - 1)).setF
      (flagsOf (s.r8 r - 1 = 0) true ((s.r8 r).toNat % 16 = 0) (fC s.cpu.f))).tick (incCycles r)) := by
  rw [exec_of_form h, execForm, doDec8, dec8_eq]

end

/-- Settles O14: each of the four is the operation of its form, on a register or on the byte at HL. -/
theorem byteIncrements : Obligations.ByteIncrements :=
  ⟨fun _ _ s h => ⟨encode_of_form h, _, flagsAre_flagsOf _ _ _ _, exec_of_inc8 h s⟩,
    fun _ s h => ⟨encode_of_form h, _, flagsAre_flagsOf _ _ _ _, exec_of_inc8 h s⟩,
    fun _ _ s h => ⟨encode_of_form h, _, flagsAre_flagsOf _ _ _ _, exec_of_dec8 h s⟩,
    fun _ s h => ⟨encode_of_form h, _, flagsAre_flagsOf _ _ _ _, exec_of_dec8 h s⟩⟩

/-! `DAA` (R198), by the two corrections that fire. -/

/-- The correction that `DAA` adds or subtracts, from the two that fire (R198). -/
def daaAdjust (low high : Bool) : Byte := (if low then 0x06 else 0) + (if high then 0x60 else 0)

theorem ofNat_daaAdjust (low high : Bool) :
    BitVec.ofNat 8 ((if low then 0x06 else 0) + (if high then 0x60 else 0)) = daaAdjust low high := by
  cases low <;> cases high <;> rfl

theorem ofInt_daaAdjust (low high : Bool) :
    BitVec.ofInt 8 ((if low then 0x06 else 0) + (if high then 0x60 else 0)) = daaAdjust low high := by
  cases low <;> cases high <;> rfl

/-- Whether 0x06 fires: after a subtraction on H alone, after an addition on the low digit of A too. -/
def daaLow (a f : Byte) : Bool := fH f || (!fN f && decide (a.toNat % 16 > 9))

/-- Whether 0x60 fires: after a subtraction on C alone, after an addition on A too. -/
def daaHigh (a f : Byte) : Bool := fC f || (!fN f && decide (a.toNat > 0x99))

/-- A after `DAA`. -/
def daaValue (a f : Byte) : Byte :=
  if fN f then a - daaAdjust (daaLow a f) (daaHigh a f) else a + daaAdjust (daaLow a f) (daaHigh a f)

/-- The model's two cases, after a subtraction and after an addition, are one. -/
theorem daaOut_eq (a f : Byte) :
    daaOut a f = ⟨daaValue a f, flagsOf (daaValue a f = 0) (fN f) false (daaHigh a f)⟩ := by
  cases hn : fN f with
  | true => simp [daaOut, daaValue, daaLow, daaHigh, hn, ofInt_sub, ofInt_daaAdjust]
  | false => simp [daaOut, daaValue, daaLow, daaHigh, hn, BitVec.ofNat_add, ← ofNat_daaAdjust]

/-- Settles O15: each of the four is the operation of its form. -/
theorem accumulatorAdjusts : Obligations.AccumulatorAdjusts := by
  refine ⟨⟨rfl, fun s => ⟨_, flagsAre_flagsOf _ _ _ _, ?_⟩⟩, ⟨rfl, rfl, rfl⟩, fun s =>
    ⟨⟨_, flagsAre_flagsOf _ _ _ _, ?_⟩, ⟨_, flagsAre_flagsOf _ _ _ _, rfl⟩, ⟨_, flagsAre_flagsOf _ _ _ _, rfl⟩⟩⟩
  · rw [exec_eq_execForm, Instr.form, execForm, doDaa, daaOut_eq]
    rfl
  · rw [exec_eq_execForm, Instr.form, execForm, doCpl, cplOut_eq]
    rfl

end Sys2Proof.Machine
end

section
/-! SUPPORT. 16-bit arithmetic (43_alu16.md): the sums as arithmetic on words, the next state of each shared operation, and from
them the statement. -/

namespace Sys2Proof.Machine

/-- The sum of unbounded integers, narrowed at the end, is the sum of words (R10, R215). -/
theorem addHlOut_eq (a v : Word) (f : Byte) :
    addHlOut a v f = ⟨a + v,
      flagsOf (fZ f) false (a.toNat % 0x1000 + v.toNat % 0x1000 > 0x0FFF) (a.toNat + v.toNat > 0xFFFF)⟩ := by
  simp only [addHlOut, BitVec.ofNat_add, ofNat_toNat_self]

/-- The sum takes e signed, the two flags take the low bytes unsigned (R218 to R220). -/
theorem addSpOut_eq (sp : Word) (e : Byte) :
    addSpOut sp e = ⟨sp + e.signExtend 16,
      flagsOf false false (sp.toNat % 16 + e.toNat % 16 > 15) (sp.toNat % 256 + e.toNat > 255)⟩ := by
  rw [addSpOut, BitVec.ofInt_add, ofInt_toNat_self, BitVec.signExtend]

theorem doAddHl_eq (p : R16) (s : State) :
    doAddHl p s = .next { s with
      cpu := { s.cpu with
        h := hiByte (s.cpu.hl + s.cpu.reg16 p), l := loByte (s.cpu.hl + s.cpu.reg16 p),
        f := flagsOf (fZ s.cpu.f) false (s.cpu.hl.toNat % 0x1000 + (s.cpu.reg16 p).toNat % 0x1000 > 0x0FFF)
          (s.cpu.hl.toNat + (s.cpu.reg16 p).toNat > 0xFFFF) },
      cycles := s.cycles + 8 } := by
  rw [doAddHl, addHlOut_eq]
  rfl

theorem doInc16_eq (p : R16) (s : State) :
    doInc16 p s = .next { s with cpu := s.cpu.setReg16 p (s.cpu.reg16 p + 1), cycles := s.cycles + 8 } := rfl

theorem doDec16_eq (p : R16) (s : State) :
    doDec16 p s = .next { s with cpu := s.cpu.setReg16 p (s.cpu.reg16 p - 1), cycles := s.cycles + 8 } := rfl

theorem doAddSp_eq (e : Byte) (s : State) :
    doAddSp e s = .next { s with
      cpu := { s.cpu with
        sp := s.cpu.sp + e.signExtend 16,
        f := flagsOf false false (s.cpu.sp.toNat % 16 + e.toNat % 16 > 15) (s.cpu.sp.toNat % 256 + e.toNat > 255) },
      cycles := s.cycles + 16 } := by
  rw [doAddSp, addSpOut_eq]
  rfl

theorem doLdHlSp_eq (e : Byte) (s : State) :
    doLdHlSp e s = .next { s with
      cpu := { s.cpu with
        h := hiByte (s.cpu.sp + e.signExtend 16), l := loByte (s.cpu.sp + e.signExtend 16),
        f := flagsOf false false (s.cpu.sp.toNat % 16 + e.toNat % 16 > 15) (s.cpu.sp.toNat % 256 + e.toNat > 255) },
      cycles := s.cycles + 12 } := by
  rw [doLdHlSp, addSpOut_eq]
  rfl

/-- Settles O16: each of the five is the operation of its form. -/
theorem wordArithmetic : Obligations.WordArithmetic :=
  ⟨fun _ p s =>
    ⟨fun h => ⟨encode_of_form h, _, flagsAre_flagsOf _ _ _ _, (exec_of_form h s).trans (doAddHl_eq p s)⟩,
      fun h => ⟨encode_of_form h, (exec_of_form h s).trans (doInc16_eq p s)⟩,
      fun h => ⟨encode_of_form h, (exec_of_form h s).trans (doDec16_eq p s)⟩⟩,
    fun e s =>
      ⟨⟨encode_of_form rfl, _, flagsAre_flagsOf _ _ _ _, (exec_of_form rfl s).trans (doAddSp_eq e s)⟩,
        encode_of_form rfl, _, flagsAre_flagsOf _ _ _ _, (exec_of_form rfl s).trans (doLdHlSp_eq e s)⟩⟩

end Sys2Proof.Machine
end

section
/-! SUPPORT. Rotates, shifts and bit operations (44_rotate_shift_bit.md): the results as shifts of the whole byte and bit by bit,
the next state of each shared operation, and from them the statements. -/

namespace Sys2Proof.Machine

/-! Bytes. The model puts a result together from bit fields; the statements shift or rotate the whole byte. -/

/-- Two bytes are equal when bit 7 and the bits below it are. -/
theorem byte_ext {v w : Byte} (top : v[7] = w[7]) (low : ∀ k (hk : k < 7), v[k] = w[k]) : v = w := by
  apply BitVec.eq_of_getElem_eq
  intro k hk
  by_cases h : k < 7
  · exact low k h
  · obtain rfl : k = 7 := by omega
    exact top

theorem getElem_bitByte (x : Bool) {k : Nat} (hk : k < 8) : (bitByte x)[k] = (decide (k = 0) && x) := by
  cases x <;> simp [bitByte]

/-- The value of every left rotate and shift (R229, R231, R233): the low bits move up and one comes in below. -/
theorem lowBits_append_bit (v : Byte) (x : Bool) : v.extractLsb' 0 7 ++ BitVec.ofBool x = v <<< 1 ||| bitByte x := by
  apply BitVec.eq_of_getElem_eq
  intro k hk
  rw [BitVec.getElem_append, BitVec.getElem_or, getElem_bitByte]
  cases k with
  | zero => simp
  | succ k => simp [Nat.lt_of_succ_lt hk]

/-- The value of every right rotate and shift (R230, R232, R234, R236): the high bits move down and one comes in above. -/
theorem bit_append_highBits (v : Byte) (x : Bool) : BitVec.ofBool x ++ v.extractLsb' 1 7 = v >>> 1 ||| bitByte x <<< 7 := by
  apply byte_ext
  · rw [BitVec.getElem_append]
    simp [getElem_bitByte]
  · intro k hk
    rw [BitVec.getElem_append]
    simp [getElem_bitByte, hk]

theorem rotateLeft_one (v : Byte) : v.rotateLeft 1 = v <<< 1 ||| bitByte (v.getLsbD 7) := by
  apply BitVec.eq_of_getElem_eq
  intro k hk
  cases k <;> simp [BitVec.getElem_rotateLeft, getElem_bitByte]

theorem rotateRight_one (v : Byte) : v.rotateRight 1 = v >>> 1 ||| bitByte (v.getLsbD 0) <<< 7 := by
  apply byte_ext
  · simp [BitVec.getElem_rotateRight, getElem_bitByte]
  · intro k hk
    simp [BitVec.getElem_rotateRight, getElem_bitByte, hk, show 1 + k < 8 by omega]

theorem sshiftRight_one (v : Byte) : v.sshiftRight 1 = v >>> 1 ||| bitByte (v.getLsbD 7) <<< 7 := by
  apply byte_ext
  · simp [BitVec.getElem_sshiftRight, BitVec.msb_eq_getLsbD_last, getElem_bitByte]
  · intro k hk
    simp [BitVec.getElem_sshiftRight, getElem_bitByte, hk, show 1 + k < 8 by omega]

theorem rotateLeft_four (v : Byte) : v.rotateLeft 4 = v.extractLsb' 0 4 ++ v.extractLsb' 4 4 := by
  apply BitVec.eq_of_getElem_eq
  intro k hk
  rw [BitVec.getElem_rotateLeft, BitVec.getElem_append]
  by_cases h : k < 4
  · simp [h, show 4 + k < 8 by omega]
  · simp [h, show k - 4 < 8 by omega]

/-! The one bit that `RES` clears and `SET` sets (R238, R239). -/

theorem getLsbD_one_shiftLeft (b : Nat) {k : Nat} (hk : k < 8) : (1#8 <<< b).getLsbD k = decide (k = b) := by
  rw [← BitVec.twoPow_eq, BitVec.getLsbD_twoPow]
  by_cases h : k = b
  · simp [← h, hk]
  · simp [h, Ne.symm h]

theorem getLsbD_resBit (v : Byte) (b : Nat) {k : Nat} (hk : k < 8) :
    (resBit v b).getLsbD k = if k = b then false else v.getLsbD k := by
  have hmask : 0xFF ^^^ 1#8 <<< b = ~~~(1#8 <<< b) := BitVec.allOnes_xor
  rw [resBit, hmask, BitVec.getLsbD_and, BitVec.getLsbD_not, getLsbD_one_shiftLeft b hk]
  by_cases h : k = b <;> simp [h, hk]

theorem getLsbD_setBit (v : Byte) (b : Nat) {k : Nat} (hk : k < 8) :
    (setBit v b).getLsbD k = if k = b then true else v.getLsbD k := by
  rw [setBit, BitVec.getLsbD_or, getLsbD_one_shiftLeft b hk]
  by_cases h : k = b <;> simp [h]

/-! Rotates and shifts. -/

/-- Every rotate and shift (R229 to R236): the whole byte shifted, and the bit moved out. -/
theorem RotOp.compute_eq (op : RotOp) (v f : Byte) : op.compute v f = rotOut (op.shifted v (fC f)) (op.bitOut v) := by
  cases op with
  | rlc => exact congrArg (rotOut · _) ((lowBits_append_bit v _).trans (rotateLeft_one v).symm)
  | rrc => exact congrArg (rotOut · _) ((bit_append_highBits v _).trans (rotateRight_one v).symm)
  | rl => exact congrArg (rotOut · _) (lowBits_append_bit v _)
  | rr => exact congrArg (rotOut · _) (bit_append_highBits v _)
  | sla => exact congrArg (rotOut · _) ((lowBits_append_bit v false).trans BitVec.or_zero)
  | sra => exact congrArg (rotOut · _) ((bit_append_highBits v _).trans (sshiftRight_one v).symm)
  | swap => exact congrArg (rotOut · _) (rotateLeft_four v).symm
  | srl => exact congrArg (rotOut · _) ((bit_append_highBits v false).trans BitVec.or_zero)

/-- Z is cleared, the other flags are kept (R225 to R228). -/
theorem clearZ_rotOut (res : Byte) (out : Bool) : clearZ (rotOut res out) = ⟨res, flagsOf false false false out⟩ := by
  obtain ⟨-, hn, hh, hc, -⟩ := flagsAre_flagsOf (res = 0) false false out
  rw [clearZ, rotOut, hn, hh, hc]

/-! The range of a form's operation and bit fields (R112, R119). -/

/-- An accumulator rotate is one of the four rotates (R225 to R228), and a bit number is below 8 (R237 to R239). -/
def fieldsInRange (f : Form) : Bool :=
  match f with
  | .rotA op => op.code < 4
  | .bit b _ | .res b _ | .set b _ => b < 8
  | _ => true

theorem fieldsInRange_form (i : Instr) : fieldsInRange i.form = true := by cases i <;> rfl

theorem fieldsInRange_of_form {i : Instr} {f : Form} (h : i.form = f) : fieldsInRange f = true := h ▸ fieldsInRange_form i

/-! The shared operations. -/

theorem doRotA_eq (op : RotOp) (s : State) :
    doRotA op s = .next { s with
      cpu := { s.cpu with a := op.shifted s.cpu.a (fC s.cpu.f), f := flagsOf false false false (op.bitOut s.cpu.a) },
      cycles := s.cycles + 4 } := by
  rw [doRotA, RotOp.compute_eq, clearZ_rotOut]
  rfl

theorem doRot_eq (op : RotOp) (r : R8) (s : State) :
    doRot op r s = .next ((((s.noteR8 r).setR8 r (op.shifted (s.r8 r) (fC s.cpu.f))).setF
      (flagsOf (op.shifted (s.r8 r) (fC s.cpu.f) = 0) false false (op.bitOut (s.r8 r)))).tick (extCycles r)) := by
  rw [doRot, RotOp.compute_eq, rotOut]

theorem doBit_eq (b : Nat) (r : R8) (s : State) :
    doBit b r s = .next { s with
      cpu := { s.cpu with f := flagsOf (!(s.r8 r).getLsbD b) false true (fC s.cpu.f) }, bus := (s.noteR8 r).bus,
      cycles := s.cycles + if r = .atHL then 12 else 8 } := by
  cases r <;> rfl

/-- Settles O17: each rotate and shift is the operation of its form, on A, on a register or on the byte at HL. -/
theorem rotatesAndShifts : Obligations.RotatesAndShifts :=
  ⟨fun _ op s h => ⟨⟨encode_of_form h, of_decide_eq_true (fieldsInRange_of_form h)⟩, _, flagsAre_flagsOf _ _ _ _,
      (exec_of_form h s).trans (doRotA_eq op s)⟩,
    fun _ op r s h => ⟨encode_of_form h, _, flagsAre_flagsOf _ _ _ _, (exec_of_form h s).trans (doRot_eq op (.reg r) s)⟩,
    fun _ op s h => ⟨encode_of_form h, _, flagsAre_flagsOf _ _ _ _, (exec_of_form h s).trans (doRot_eq op .atHL s)⟩⟩

/-- Settles O18: each of the three is the operation of its form, and the byte written differs in the one bit. -/
theorem bitOperations : Obligations.BitOperations := by
  refine ⟨fun i b r s h => ⟨⟨of_decide_eq_true (fieldsInRange_of_form h), encode_of_form h⟩, _, flagsAre_flagsOf _ _ _ _,
    (exec_of_form h s).trans (doBit_eq b r s)⟩, ?_⟩
  rintro i b r s _ (⟨h, rfl⟩ | ⟨h, rfl⟩)
  · refine ⟨⟨of_decide_eq_true (fieldsInRange_of_form h), encode_of_form h⟩, resBit (s.r8 r) b,
      fun _ => getLsbD_resBit _ b, ?_⟩
    cases r <;> exact exec_of_form h s
  · refine ⟨⟨of_decide_eq_true (fieldsInRange_of_form h), encode_of_form h⟩, setBit (s.r8 r) b,
      fun _ => getLsbD_setBit _ b, ?_⟩
    cases r <;> exact exec_of_form h s

end Sys2Proof.Machine
end

section
/-! SUPPORT. Calls and returns (R255 to R260): the next state of each shared operation, with its condition known, and from it
the statements. -/

namespace Sys2Proof.Machine

/-! The whole state after a call or a return that costs `n`. -/

namespace State

variable (s : State)

theorem call_tick (target : Word) (n : Nat) :
    (s.call target).tick n = { s with
      cpu := { s.cpu with sp := s.cpu.sp - 2, pc := target },
      bus := (s.bus.memWrite (s.cpu.sp - 2) (loByte s.cpu.pc)).memWrite (s.cpu.sp - 1) (hiByte s.cpu.pc),
      cycles := s.cycles + n } := by
  rw [← sp_sub_two_add_one]
  rfl

theorem ret_tick (n : Nat) :
    s.ret.tick n = { s with
      cpu := { s.cpu with sp := s.cpu.sp + 2, pc := mkWord (s.bus.memRead (s.cpu.sp + 1)) (s.bus.memRead s.cpu.sp) },
      bus := (s.bus.afterRead s.cpu.sp).afterRead (s.cpu.sp + 1), cycles := s.cycles + n } := by
  rw [← s.pop16_word]
  rfl

/-- The return from a handler is the return with IME set and the latch clear, whatever they were (R259). -/
theorem retInterrupt_tick (n : Nat) :
    s.retInterrupt.tick n = { s with
      cpu := { s.cpu with
        sp := s.cpu.sp + 2, pc := mkWord (s.bus.memRead (s.cpu.sp + 1)) (s.bus.memRead s.cpu.sp),
        ime := true, imePending := false },
      bus := (s.bus.afterRead s.cpu.sp).afterRead (s.cpu.sp + 1), cycles := s.cycles + n } := by
  rw [← s.pop16_word]
  rfl

end State

/-! The shared operations. -/

theorem doCall_none (nn : Word) (s : State) : doCall none nn s = .next ((s.call nn).tick 24) := rfl

theorem doRet_none (s : State) : doRet none s = .next (s.ret.tick 16) := rfl

theorem doReti_eq (s : State) : doReti s = .next (s.retInterrupt.tick 16) := rfl

theorem doRst_eq (t : Nat) (s : State) : doRst t s = .next ((s.call (BitVec.ofNat 16 (8 * t))).tick 16) := by
  rw [doRst, Nat.mul_comm]; rfl

section
variable {cc : Cond} {s : State}

theorem doCall_of_holds (h : cc.holds s.cpu.f = true) (nn : Word) : doCall (some cc) nn s = .next ((s.call nn).tick 24) := by
  rw [doCall, taken, if_pos h]; rfl

theorem doCall_of_not_holds (h : ¬ cc.holds s.cpu.f = true) (nn : Word) : doCall (some cc) nn s = .next (s.tick 12) := by
  rw [doCall, taken, if_neg h]; rfl

theorem doRet_of_holds (h : cc.holds s.cpu.f = true) : doRet (some cc) s = .next (s.ret.tick 20) := by
  rw [doRet, taken, if_pos h]; rfl

theorem doRet_of_not_holds (h : ¬ cc.holds s.cpu.f = true) : doRet (some cc) s = .next (s.tick 8) := by
  rw [doRet, taken, if_neg h]; rfl

end

/-- There are eight restarts (R260). -/
theorem lt_eight_of_form_rst {t : Nat} : ∀ {i : Instr}, i.form = .rst t → t < 8
  | .rst_00, rfl | .rst_08, rfl | .rst_10, rfl | .rst_18, rfl
  | .rst_20, rfl | .rst_28, rfl | .rst_30, rfl | .rst_38, rfl => by decide

/-- The next state of an instruction, from the one its form's operation answers. -/
theorem exec_next_of_form {i : Instr} {f : Form} {s t u : State} (hi : i.form = f) (hf : execForm f s = .next t) (ht : t = u) :
    exec i s = .next u :=
  ht ▸ (exec_of_form hi s).trans hf

/-- Settles O20: each is the operation of its form, with the condition true or false. -/
theorem calls : Obligations.Calls := by
  intro s
  refine ⟨fun nn => ⟨rfl, exec_next_of_form rfl (doCall_none nn s) (s.call_tick nn 24)⟩,
    fun i cc nn hi => ⟨encode_of_form hi, ?_⟩,
    fun i t hi => ⟨⟨lt_eight_of_form_rst hi, encode_of_form hi⟩, exec_next_of_form hi (doRst_eq t s) (s.call_tick _ 16)⟩⟩
  split
  · next h => exact exec_next_of_form hi (doCall_of_holds h nn) (s.call_tick nn 24)
  · next h => exact exec_next_of_form hi (doCall_of_not_holds h nn) rfl

/-- Settles O21: each is the operation of its form, with the condition true or false. -/
theorem returns : Obligations.Returns := by
  intro s
  refine ⟨⟨rfl, exec_next_of_form rfl (doRet_none s) (s.ret_tick 16)⟩,
    fun i cc hi => ⟨encode_of_form hi, ?_⟩,
    rfl, exec_next_of_form rfl (doReti_eq s) (s.retInterrupt_tick 16)⟩
  split
  · next h => exact exec_next_of_form hi (doRet_of_holds h) (s.ret_tick 20)
  · next h => exact exec_next_of_form hi (doRet_of_not_holds h) rfl

end Sys2Proof.Machine
end

section
/-! SUPPORT. The system instructions, the undefined opcodes and 0xCB (46_system.md), the idle step (R277, R278), and what a
halted CPU with no source enabled keeps. -/

namespace Sys2Proof.Machine

/-! The instructions (R270 to R276). -/

/-- EI sets `ime_pending` where neither it nor IME is set (R274): of the four cases of the two, only that one changes. -/
theorem doEi_eq (s : State) :
    doEi s = .next { s with
      cpu := { s.cpu with imePending := s.cpu.imePending || !s.cpu.ime }, cycles := s.cycles + 4 } := by
  unfold doEi
  split
  · next h =>
    obtain ⟨hime, hp⟩ : s.cpu.ime = false ∧ s.cpu.imePending = false := by simpa using h
    rw [hp, hime]
    rfl
  · next h =>
    rw [Bool.or_eq_left_iff_imp.mpr (by simpa using h)]
    rfl

/-- Settles O22: each of the five is the operation of its form. -/
theorem systemInstructions : Obligations.SystemInstructions :=
  ⟨⟨rfl, rfl, rfl, rfl⟩, fun _ => rfl, fun s => ⟨rfl, rfl, fun _ => rfl, rfl, exec_next_of_form rfl (doEi_eq s) rfl⟩⟩

/-- There are eleven undefined opcodes (R276). -/
theorem undefined_opcode_mem {op : Byte} : ∀ {i : Instr}, i.form = .undefined op →
    op ∈ ([0xD3, 0xDB, 0xDD, 0xE3, 0xE4, 0xEB, 0xEC, 0xED, 0xF4, 0xFC, 0xFD] : List Byte)
  | .undef_D3, rfl | .undef_DB, rfl | .undef_DD, rfl | .undef_E3, rfl | .undef_E4, rfl | .undef_EB, rfl
  | .undef_EC, rfl | .undef_ED, rfl | .undef_F4, rfl | .undef_FC, rfl | .undef_FD, rfl => by decide

theorem doUndefined_eq (op : Byte) (s : State) :
    doUndefined op s = .next { s with
      bus := { s.bus with anomaly := recordAnomaly s.bus.anomaly (.unknownOpcode op (s.cpu.pc - 1)) },
      cycles := s.cycles + 4 } := rfl

/-- 0xCB fetches a byte and is the instruction that the extended table has for it (R275). -/
theorem exec_prefix_CB (s : State) : exec .prefix_CB s = exec (decodeExtended s.fetch8.1) s.fetch8.2 :=
  calc exec .prefix_CB s
    _ = execForm (formOfExtended s.fetch8.1) s.fetch8.2 := (exec_of_form rfl s).trans (execForm_prefixCB s)
    _ = exec (decodeExtended s.fetch8.1) s.fetch8.2 := (exec_of_form (form_decodeExtended _) _).symm

/-- Settles O23: an undefined opcode is the operation of its form, which makes one record; the decoder with a byte after 0xCB
answers the instruction that 0xCB runs. -/
theorem undefinedAndPrefix : Obligations.UndefinedAndPrefix :=
  ⟨fun _ op s h => ⟨⟨encode_of_form h, undefined_opcode_mem h⟩,
      recordAnomaly s.bus.anomaly (.unknownOpcode op (s.cpu.pc - 1)), Bus.mem_recordAnomaly _ _,
      (exec_of_form h s).trans (doUndefined_eq op s)⟩,
    fun s => ⟨rfl, decodeExtended s.fetch8.1, rfl, exec_prefix_CB s⟩⟩

/-! The idle step. -/

namespace State

variable {s : State}

theorem runInstr_of_idle (h : s.cpu.halted = true ∨ s.cpu.stopped = true) : s.runInstr = .next (s.tick 4) := by
  rw [runInstr, if_pos (by simpa using h)]
  rfl

/-- The promotion of an EI that waited, after a step that leaves the latch alone (R311). -/
theorem promoteEi_tick (n : Nat) :
    (s.tick n).promoteEi s.cpu.imePending = { s with
      cpu := if s.cpu.imePending then { s.cpu with ime := true, imePending := false } else s.cpu,
      cycles := s.cycles + n } := by
  rw [promoteEi, tick_cpu, Bool.and_self]
  split <;> rfl

end State

/-- Settles O31: an idle step runs no instruction, and its count is one that `PPU.run` accepts, for a dispatch costs 20. -/
theorem idleStep : Obligations.IdleStep := by
  rintro s _ rfl hidle
  have hcheck := s.beginStep.interruptCheck_cycles
  rw [State.beginStep_cycles] at hcheck
  rw [step_eq_next (State.runInstr_of_idle hidle) (by rw [State.tick_cycles]; omega), State.promoteEi_tick]

/-! With nothing pending the interrupt check does nothing (R307, R310). -/

theorem leastPending_zero : leastPending 0 = none := rfl

theorem Bus.pending_of_nothing_enabled {b : Bus} (h : b.ie &&& 0x1F = 0) : b.pending = 0 := by
  rw [pending, BitVec.and_assoc, BitVec.and_comm b.ifReg, ← BitVec.and_assoc, h]
  exact BitVec.zero_and

theorem State.wake_of_pending_zero {s : State} (h : s.bus.pending = 0) : s.wake = s := by simp [wake, h]

theorem State.interruptCheck_of_pending_zero {s : State} (h : s.bus.pending = 0) : s.interruptCheck = s := by
  simp only [interruptCheck, wake_of_pending_zero h, h, leastPending_zero, ite_self]

/-! Nothing but a CPU write changes IE (R32, R75): not the consumer's input, nor the peripherals. -/

@[simp] theorem Bus.note_ie (b : Bus) (a : Nat) (x : Access) : (b.note a x).ie = b.ie := by
  rcases b.note_cases a x with e | ⟨r, -, e⟩ <;> rw [e]
  rfl

@[simp] theorem Bus.dmaTick4_ie (b : Bus) : b.dmaTick4.ie = b.ie := by
  have htransfer : b.dmaTransfer.ie = b.ie := by
    unfold Bus.dmaTransfer
    dsimp only
    split
    · exact Bus.note_ie _ _ _
    · rfl
  cases hactive : b.ppu.dmaActive with
  | false => rw [b.dmaTick4_of_idle hactive]
  | true => rw [b.dmaTick4_of_active hactive, apply_ite Bus.ie, htransfer, ite_self]

@[simp] theorem Bus.tick4_ie (b : Bus) : b.tick4.ie = b.ie := b.dmaTick4_ie

@[simp] theorem Bus.ppuRun_ie (b : Bus) (c : Nat) : (b.ppuRun c).ie = b.ie := by
  unfold Bus.ppuRun
  induction c / 4 with
  | zero => rfl
  | succ n ih => rw [Function.iterate_succ_apply', tick4_ie, ih]

@[simp] theorem State.advanceBoard_ie (s : State) : s.advanceBoard.bus.ie = s.bus.ie :=
  Bus.ppuRun_ie _ _

@[simp] theorem State.beginStep_ie (s : State) : s.beginStep.bus.ie = s.bus.ie := by
  unfold State.beginStep
  dsimp only
  split
  · rfl
  · split
    · rfl
    · rfl

/-! Runs. -/

theorem run_succ_of_step {M : Host.Core} {s u : M.State} (h : M.step s = .next u) (n : Nat) : M.run (n + 1) s = M.run n u := by
  rw [Host.Core.run, h]

/-- A property of which every step answers a state that has it again is kept by a run of any length. -/
theorem run_induct {P : State → Prop} (hstep : ∀ s, P s → ∃ t, step s = .next t ∧ P t) (n : Nat) {s : State} (hs : P s) :
    ∃ t : State, Sys2Proof.core.run n s = .next t ∧ P t := by
  induction n generalizing s with
  | zero => exact ⟨s, rfl, hs⟩
  | succ n ih =>
    obtain ⟨u, hu, hPu⟩ := hstep s hs
    obtain ⟨t, ht, hPt⟩ := ih hPu
    exact ⟨t, (run_succ_of_step (M := Sys2Proof.core) hu n).trans ht, hPt⟩

/-- IE and the CPU of `t` are those of `s`, but for IME and `ime_pending`. -/
def SameButLatch (s t : State) : Prop :=
  t.bus.ie = s.bus.ie ∧ t.cpu = { s.cpu with ime := t.cpu.ime, imePending := t.cpu.imePending }

theorem SameButLatch.refl (s : State) : SameButLatch s s := ⟨rfl, rfl⟩

theorem SameButLatch.trans {s t u : State} (h : SameButLatch s t) (h' : SameButLatch t u) : SameButLatch s u := by
  obtain ⟨hie, hcpu⟩ := h
  obtain ⟨hie', hcpu'⟩ := h'
  refine ⟨hie'.trans hie, hcpu'.trans ?_⟩
  rw [hcpu]

/-- A step of a halted CPU with no source enabled neither wakes it nor dispatches, so that it is idle (R271, R277, R310). -/
theorem step_of_halted {s : State} (hhalted : s.cpu.halted = true) (hie : s.bus.ie &&& 0x1F = 0) :
    ∃ t, step s = .next t ∧ SameButLatch s t := by
  have hpending : s.beginStep.bus.pending = 0 := Bus.pending_of_nothing_enabled (by rwa [State.beginStep_ie])
  have hcheck : s.beginStep.interruptCheck = s.beginStep := State.interruptCheck_of_pending_zero hpending
  refine ⟨_, idleStep s _ hcheck (.inl (by rwa [State.beginStep_cpu])), ?_, ?_⟩
  · rw [State.advanceBoard_ie, State.beginStep_ie]
  · show ite _ _ _ = _
    rw [State.beginStep_cpu]
    split <;> rfl

/-- Settles O35: every step of the run starts from the halted CPU and the IE of its first state. -/
theorem haltWithNothingEnabled : Obligations.HaltWithNothingEnabled := by
  intro n s hhalted hie
  refine run_induct (P := SameButLatch s) (fun u hu => ?_) n (.refl s)
  obtain ⟨huie, hucpu⟩ := hu
  obtain ⟨t, ht, hut⟩ := step_of_halted (s := u) (by rw [hucpu]; exact hhalted) (by rwa [huie])
  exact ⟨t, ht, .trans ⟨huie, hucpu⟩ hut⟩

end Sys2Proof.Machine
end

section
/-! SUPPORT. The end of a step (R305): what the DMA engine and the display leave of the BUS as they advance, and the merge of the
requests into IF. -/

namespace Sys2Proof.Machine

namespace Bus

variable (b : Bus)

/-- `c` is `b` but for what the DMA engine changes: object memory, its counter and its activity, and the anomaly set (R392). -/
def SameButDma (c : Bus) : Prop := ∃ anomaly oam dmaTick dmaActive,
  c = { b with anomaly, ppu := { b.ppu with oam, dmaTick, dmaActive } }

/-- `c` is `b` but for the display controller and the anomaly set. -/
def SameButPpu (c : Bus) : Prop := ∃ anomaly ppu, c = { b with anomaly, ppu }

/-- Noting an access changes the anomaly set only (R44, R302). -/
theorem note_eq (a : Nat) (x : Access) : b.note a x = { b with anomaly := (b.note a x).anomaly } := by
  rcases b.note_cases a x with e | ⟨r, -, e⟩ <;> rw [e]
  rfl

theorem dmaCopy_sameButDma (k : Nat) : b.SameButDma (b.dmaCopy k) := by
  unfold dmaCopy
  dsimp only
  rw [note_eq]
  exact ⟨_, _, _, _, rfl⟩

theorem dmaTransfer_sameButDma : b.SameButDma b.dmaTransfer := by
  unfold dmaTransfer
  dsimp only
  split
  · obtain ⟨_, _, _, _, e⟩ := dmaCopy_sameButDma { b with ppu := { b.ppu with dmaTick := b.ppu.dmaTick + 1 } }
      (b.ppu.dmaTick + 1 - 2)
    rw [e]
    exact ⟨_, _, _, _, rfl⟩
  · exact ⟨_, _, _, _, rfl⟩

theorem dmaTick4_sameButDma : b.SameButDma b.dmaTick4 := by
  cases hactive : b.ppu.dmaActive with
  | false => exact ⟨_, _, _, _, b.dmaTick4_of_idle hactive⟩
  | true =>
    obtain ⟨_, _, _, _, e⟩ := b.dmaTransfer_sameButDma
    rw [b.dmaTick4_of_active hactive, e]
    split <;> exact ⟨_, _, _, _, rfl⟩

theorem tick4_sameButPpu : b.SameButPpu b.tick4 := by
  obtain ⟨_, _, _, _, e⟩ := b.dmaTick4_sameButDma
  unfold tick4
  rw [e]
  exact ⟨_, _, rfl⟩

theorem ppuRun_sameButPpu (c : Nat) : b.SameButPpu (b.ppuRun c) := by
  unfold ppuRun
  induction c / 4 with
  | zero => exact ⟨_, _, rfl⟩
  | succ n ih =>
    obtain ⟨_, _, e⟩ := ih
    obtain ⟨_, _, e'⟩ := (tick4^[n] b).tick4_sameButPpu
    rw [Function.iterate_succ_apply', e', e]
    exact ⟨_, _, rfl⟩

@[simp] theorem ifReg_setIf (v : Byte) : (b.setIf v).ifReg = v := Memory.read_write_same _ _ _

/-- The bits at which the requests are ORed into IF (R305). -/
theorem requests_getLsbD (vblank stat timer joypad : Bool) (k : Nat) :
    ((0#3) ++ BitVec.ofBool joypad ++ (0#1) ++ BitVec.ofBool timer ++ BitVec.ofBool stat
      ++ BitVec.ofBool vblank : Byte).getLsbD k =
      (((k = 0 && vblank) || (k = 1 && stat)) || (k = 2 && timer) || (k = 4 && joypad)) := by
  by_cases hk : k < 8
  · revert vblank stat timer joypad k
    decide
  · rw [BitVec.getLsbD_of_ge _ _ (not_lt.mp hk)]
    simp [show k ≠ 0 by omega, show k ≠ 1 by omega, show k ≠ 2 by omega, show k ≠ 4 by omega]

end Bus

/-- Settles O36: by `ppuRun_sameButPpu` the merge finds IF, the Timer and the Joypad as the display's run was given them. -/
theorem requestsMerged : Obligations.RequestsMerged := by
  refine ⟨fun u => ?_, fun _ _ => rfl, fun b c => ⟨rfl, rfl, ?_, b.dmaTick4_of_idle⟩⟩
  · obtain ⟨anomaly, ppu, hadvanced⟩ := Bus.ppuRun_sameButPpu { u.bus with timer := u.bus.timer.run u.cycles } u.cycles
    simp only [State.advanceBoard, Bus.merge, hadvanced]
    refine ⟨fun k => ?_, fun k hk => Memory.read_write_ne _ _ _ _ hk, rfl⟩
    exact (congrArg (BitVec.getLsbD · k) (Bus.ifReg_setIf _ _)).trans
      (by simp only [BitVec.getLsbD_or, Bus.requests_getLsbD, Bus.ifReg, Bool.or_assoc])
  · obtain ⟨_, _, _, _, e⟩ := b.dmaTick4_sameButDma
    rw [e]

end Sys2Proof.Machine
end

section
/-! SUPPORT. The scanline state machine (R370 to R378): a tick-of-4 said once, by the cycle of the line that it reaches. -/

namespace Sys2Proof.Machine.Ppu

variable (p : Ppu)

/-! The mode and the bits of STAT. -/

/-- The mode of STAT is the one written to bits 1:0 (R363). -/
theorem modeBits_replaced (s : Byte) (m : BitVec 2) : ((s &&& 0xFC) ||| m.setWidth 8).extractLsb' 0 2 = m := by
  have hcleared : (0xFC : Byte).extractLsb' 0 2 = 0#2 := by decide
  have hset : (m.setWidth 8).extractLsb' 0 2 = m := by revert m; decide
  rw [BitVec.extractLsb'_or, BitVec.extractLsb'_and, hcleared, hset, BitVec.and_zero, BitVec.zero_or]

@[simp] theorem setMode_mode (m : BitVec 2) : (p.setMode m).mode = m := modeBits_replaced p.stat m

/-- Only bits 1:0 of STAT are the mode (R363). -/
theorem setMode_stat_high (m : BitVec 2) {k : Nat} (hk : 2 ≤ k) (hk' : k < 8) :
    (p.setMode m).stat.getLsbD k = p.stat.getLsbD k := by
  show ((p.stat &&& 0xFC) ||| m.setWidth 8).getLsbD k = _
  have hkept : ∀ k, 2 ≤ k → k < 8 → (0xFC : Byte).getLsbD k = true := by decide
  rw [BitVec.getLsbD_or, BitVec.getLsbD_and, BitVec.getLsbD_setWidth, BitVec.getLsbD_of_ge m k hk, hkept k hk hk']
  simp

/-- The coincidence check writes bit 2 of STAT and can raise a request, and does no more (R375). -/
theorem coincidenceCheck_eq : ∃ stat : Byte,
    (∀ k, k < 8 → stat.getLsbD k = if k = 2 then decide (p.ly = p.lyc) else p.stat.getLsbD k) ∧
    p.coincidenceCheck = { p with stat, statReq := p.statReq || (p.stat.getLsbD 6 && decide (p.ly = p.lyc)) } := by
  unfold coincidenceCheck
  split
  · next h =>
    have hbit : ∀ k, k < 8 → (0x04 : Byte).getLsbD k = decide (k = 2) := by decide
    refine ⟨p.stat ||| 0x04, fun k hk => ?_, by simp [h]⟩
    rw [BitVec.getLsbD_or, hbit k hk]
    by_cases h2 : k = 2 <;> simp [h2, h]
  · next h =>
    have hbit : ∀ k, k < 8 → (0xFB : Byte).getLsbD k = !decide (k = 2) := by decide
    refine ⟨p.stat &&& 0xFB, fun k hk => ?_, by simp [h]⟩
    rw [BitVec.getLsbD_and, hbit k hk]
    by_cases h2 : k = 2 <;> simp [h2, h]

/-! A tick-of-4. -/

/-- The display at another position, all else as it was. -/
def movedTo (ly : Byte) (lineCycle : Nat) : Ppu := { p with ly, lineCycle }

/-- What a tick-of-4 of an enabled display makes of it, by the cycle of the line that it reaches (R372). -/
inductive Tick : Ppu → Prop
  /-- Cycle 0 of a visible line: OAM-scan. -/
  | visibleLine (ly : Byte) (hc : p.lineCycle = 452) (hly : ly.toNat = (p.ly.toNat + 1) % 154) (hv : ly.toNat ≤ 143) :
    Tick ((p.movedTo ly 0).setMode 2)
  /-- Cycle 0 of line 144: VBlank. -/
  | vblankLine (ly : Byte) (hc : p.lineCycle = 452) (hly : ly.toNat = (p.ly.toNat + 1) % 154) (hv : ly.toNat = 144) :
    Tick ((p.movedTo ly 0).setMode 1)
  /-- Cycle 0 of a later line. -/
  | laterLine (ly : Byte) (hc : p.lineCycle = 452) (hly : ly.toNat = (p.ly.toNat + 1) % 154) (hv : 145 ≤ ly.toNat) :
    Tick (p.movedTo ly 0)
  /-- Cycle 4 of a line other than 144: the coincidence check. -/
  | check (hc : p.lineCycle = 0) (hly : p.ly.toNat ≠ 144) : Tick (p.movedTo p.ly 4).coincidenceCheck
  /-- Cycle 4 of line 144: the coincidence check, and vblank. -/
  | checkVblank (hc : p.lineCycle = 0) (hly : p.ly.toNat = 144) :
    Tick { (p.movedTo p.ly 4).coincidenceCheck with vblankReq := true, frameDone := true }
  /-- Cycle 80 of a visible line: Draw. -/
  | draw (hc : p.lineCycle = 76) (hv : p.ly.toNat ≤ 143) : Tick ((p.movedTo p.ly 80).setMode 3)
  /-- Cycle 252 of a visible line: it is rendered, and HBlank begins. -/
  | hblank (hc : p.lineCycle = 248) (hv : p.ly.toNat ≤ 143) :
    Tick (((p.movedTo p.ly 252).renderLine p.ly.toNat).setMode 0)
  /-- Any other cycle: the position moves on, and nothing happens. -/
  | other (h452 : p.lineCycle ≠ 452) (h0 : p.lineCycle ≠ 0) (hv : p.ly.toNat ≤ 143 → p.lineCycle ≠ 76 ∧ p.lineCycle ≠ 248) :
    Tick (p.movedTo p.ly (p.lineCycle + 4))

variable {p}

/-- The last two parts of a tick act at cycle 4 of line 144, and at cycles 80 and 252 of a visible line (R372, R374). -/
theorem lineModes_vblankCheck_of_other (h4 : p.lineCycle ≠ 4)
    (hv : p.ly.toNat ≤ 143 → p.lineCycle ≠ 80 ∧ p.lineCycle ≠ 252) : p.vblankCheck.lineModes = p := by
  have hcheck : p.vblankCheck = p := if_neg fun h => h4 h.2
  rw [hcheck, lineModes, if_neg fun h => (hv h.1).1 h.2, if_neg fun h => (hv h.1).2 h.2]

theorem lineModes_of_check (h4 : p.lineCycle = 4) : p.lineModes = p := by
  simp [lineModes, h4, Config.drawOffset, Config.hblankOffset]

theorem advance_of_nextCycle {q : Ppu} (he : p.enabled = true) (hq : p.nextCycle = q) :
    p.advance = (if q.lineCycle = 4 then q.coincidenceCheck else q).vblankCheck.lineModes := by
  rw [advance, if_pos he, hq]
  rfl

/-- At the end of a line the next one begins. -/
theorem nextCycle_of_lineEnd (hc : p.lineCycle = 452) : ∃ ly : Byte, ly.toNat = (p.ly.toNat + 1) % 154 ∧
    p.nextCycle = if ly.toNat ≤ 143 then (p.movedTo ly 0).setMode 2
      else if ly.toNat = 144 then (p.movedTo ly 0).setMode 1 else p.movedTo ly 0 := by
  refine ⟨BitVec.ofNat 8 ((p.ly.toNat + 1) % 154), ?_, ?_⟩
  · rw [BitVec.toNat_ofNat]
    omega
  · rw [nextCycle, if_pos (by rw [hc]; rfl)]
    rfl

theorem nextCycle_of_lineCycle_ne (hc : p.lineCycle ≠ 452) : p.nextCycle = p.movedTo p.ly (p.lineCycle + 4) :=
  if_neg (by show p.lineCycle + 4 ≠ 456; omega)

/-- The tick that begins a line. -/
theorem advance_tick_of_lineEnd (he : p.enabled = true) (hc : p.lineCycle = 452) : p.Tick p.advance := by
  obtain ⟨ly, hly, hnext⟩ := nextCycle_of_lineEnd hc
  have hadvance : ∀ q : Ppu, p.nextCycle = q → q.lineCycle = 0 → p.advance = q := by
    intro q hq h0
    rw [advance_of_nextCycle he hq, if_neg (by omega), lineModes_vblankCheck_of_other (by omega) (by omega)]
  split_ifs at hnext with hv h144
  · exact hadvance _ hnext rfl ▸ .visibleLine ly hc hly hv
  · exact hadvance _ hnext rfl ▸ .vblankLine ly hc hly h144
  · exact hadvance _ hnext rfl ▸ .laterLine ly hc hly (by omega)

/-- The tick that reaches cycle 4, where coincidence and vblank are checked. -/
theorem advance_tick_of_lineStart (he : p.enabled = true) (hc : p.lineCycle = 0) : p.Tick p.advance := by
  have hnext : p.nextCycle = p.movedTo p.ly 4 := by rw [nextCycle_of_lineCycle_ne (by omega), hc]
  rw [advance_of_nextCycle he hnext, if_pos (by rfl)]
  obtain ⟨stat, -, e⟩ := (p.movedTo p.ly 4).coincidenceCheck_eq
  by_cases hly : p.ly.toNat = 144
  · have hvblank : (p.movedTo p.ly 4).coincidenceCheck.vblankCheck =
        { (p.movedTo p.ly 4).coincidenceCheck with vblankReq := true, frameDone := true } :=
      if_pos (by rw [e]; exact ⟨hly, rfl⟩)
    rw [hvblank, lineModes_of_check (by rw [e]; rfl)]
    exact .checkVblank hc hly
  · have hvblank : (p.movedTo p.ly 4).coincidenceCheck.vblankCheck = (p.movedTo p.ly 4).coincidenceCheck :=
      if_neg (by rw [e]; exact fun h => hly h.1)
    rw [hvblank, lineModes_of_check (by rw [e]; rfl)]
    exact .check hc hly

/-- A tick inside a line, past cycle 4. -/
theorem advance_tick_of_inside (he : p.enabled = true) (h452 : p.lineCycle ≠ 452) (h0 : p.lineCycle ≠ 0) :
    p.Tick p.advance := by
  have hlc : (p.movedTo p.ly (p.lineCycle + 4)).lineCycle = p.lineCycle + 4 := rfl
  have hly : (p.movedTo p.ly (p.lineCycle + 4)).ly = p.ly := rfl
  have hvblank : (p.movedTo p.ly (p.lineCycle + 4)).vblankCheck = p.movedTo p.ly (p.lineCycle + 4) :=
    if_neg (by rw [hlc]; simp [Config.vblankIrqOffset, h0])
  rw [advance_of_nextCycle he (nextCycle_of_lineCycle_ne h452), if_neg (by omega)]
  by_cases hdraw : p.ly.toNat ≤ 143 ∧ p.lineCycle = 76
  · obtain ⟨hv, hc⟩ := hdraw
    rw [hvblank, lineModes, if_pos (by rw [hlc, hc]; exact ⟨hv, rfl⟩), hc]
    exact .draw hc hv
  by_cases hhblank : p.ly.toNat ≤ 143 ∧ p.lineCycle = 248
  · obtain ⟨hv, hc⟩ := hhblank
    rw [hvblank, lineModes, if_neg (by rw [hlc, hc]; simp [Config.drawOffset]), if_pos (by rw [hlc, hc]; exact ⟨hv, rfl⟩), hc]
    exact .hblank hc hv
  rw [lineModes_vblankCheck_of_other (by omega) (by rw [hlc, hly]; omega)]
  exact .other h452 h0 (by omega)

/-- Everything a tick-of-4 of an enabled display can do (R372). -/
theorem advance_tick (he : p.enabled = true) : p.Tick p.advance := by
  by_cases h452 : p.lineCycle = 452
  · exact advance_tick_of_lineEnd he h452
  by_cases h0 : p.lineCycle = 0
  · exact advance_tick_of_lineStart he h0
  · exact advance_tick_of_inside he h452 h0

/-- A disabled display stands still (R377). -/
theorem advance_of_disabled (h : p.enabled = false) : p.advance = p := by simp [advance, h]

end Sys2Proof.Machine.Ppu
end

section
/-! SUPPORT. What every tick-of-4 of an enabled display keeps and does (R370 to R375, R381), from the cases of `Ppu.Tick`:
position, mode, requests and rendered lines. -/

namespace Sys2Proof.Machine

namespace Ppu

variable {p q : Ppu}

/-! The position. -/

/-- The coincidence check leaves the display where it is, enabled or not (R375). -/
theorem coincidenceCheck_position :
    p.coincidenceCheck.lcdc = p.lcdc ∧ p.coincidenceCheck.ly = p.ly ∧ p.coincidenceCheck.lineCycle = p.lineCycle := by
  obtain ⟨_, -, e⟩ := p.coincidenceCheck_eq
  rw [e]
  exact ⟨rfl, rfl, rfl⟩

/-- A tick leaves LCDC, and moves the position on: to the beginning of the next line, or four cycles inside the line. -/
theorem Tick.moves (h : p.Tick q) : q.lcdc = p.lcdc ∧
    (p.lineCycle = 452 ∧ q.ly.toNat = (p.ly.toNat + 1) % 154 ∧ q.lineCycle = 0 ∨
      p.lineCycle ≠ 452 ∧ q.ly = p.ly ∧ q.lineCycle = p.lineCycle + 4) := by
  cases h with
  | visibleLine ly hc hly _ | vblankLine ly hc hly _ | laterLine ly hc hly _ => exact ⟨rfl, .inl ⟨hc, hly, rfl⟩⟩
  | check hc _ | checkVblank hc _ =>
    obtain ⟨elcdc, ely, elc⟩ := (p.movedTo p.ly 4).coincidenceCheck_position
    exact ⟨elcdc, .inr ⟨by omega, ely, by rw [hc]; exact elc⟩⟩
  | draw hc _ | hblank hc _ => exact ⟨rfl, .inr ⟨by omega, rfl, by rw [hc]; rfl⟩⟩
  | other h452 _ _ => exact ⟨rfl, .inr ⟨h452, rfl, rfl⟩⟩

theorem Tick.enabled (h : p.Tick q) : q.enabled = p.enabled := congrArg (BitVec.getLsbD · 7) h.moves.1

theorem Tick.positionOk (h : p.Tick q) (hp : p.PositionOk) : q.PositionOk := by
  obtain ⟨-, ⟨hc, hly, hlc⟩ | ⟨hc, hly, hlc⟩⟩ := h.moves
  all_goals
    unfold PositionOk at hp ⊢
    rw [hly, hlc]
    omega

/-- A tick is four cycles of a frame of 70,224 (R370). -/
theorem Tick.cycleOfFrame (h : p.Tick q) (hp : p.PositionOk) :
    q.ly.toNat * 456 + q.lineCycle = (p.ly.toNat * 456 + p.lineCycle + 4) % 70224 := by
  obtain ⟨-, ⟨hc, hly, hlc⟩ | ⟨hc, hly, hlc⟩⟩ := h.moves
  all_goals
    unfold PositionOk at hp
    rw [hly, hlc]
    omega

/-! The mode. -/

section
variable {ly c : Nat}

theorem modeAt_vblank (h : 144 ≤ ly) : modeAt ly c = 1 := if_pos h

theorem modeAt_oamScan (h : ly ≤ 143) (hc : c < 80) : modeAt ly c = 2 := by
  rw [modeAt, if_neg (by omega), if_pos hc]

theorem modeAt_draw (h : ly ≤ 143) (hc : 80 ≤ c) (hc' : c < 252) : modeAt ly c = 3 := by
  rw [modeAt, if_neg (by omega), if_neg (by omega), if_pos hc']

theorem modeAt_hblank (h : ly ≤ 143) (hc : 252 ≤ c) : modeAt ly c = 0 := by
  rw [modeAt, if_neg (by omega), if_neg (by omega), if_neg (by omega)]

/-- The mode changes inside a visible line only at cycles 80 and 252 (R371). -/
theorem modeAt_add_four (h4 : c % 4 = 0) (hv : ly ≤ 143 → c ≠ 76 ∧ c ≠ 248) : modeAt ly (c + 4) = modeAt ly c := by
  have h80 : 144 ≤ ly ∨ (c + 4 < 80 ↔ c < 80) := by omega
  have h252 : 144 ≤ ly ∨ (c + 4 < 252 ↔ c < 252) := by omega
  rcases h80 with hb | h80
  · rw [modeAt_vblank hb, modeAt_vblank hb]
  rcases h252 with hb | h252
  · rw [modeAt_vblank hb, modeAt_vblank hb]
  · simp only [modeAt, h80, h252]

end

/-- The coincidence check leaves the mode (R375). -/
theorem coincidenceCheck_mode : p.coincidenceCheck.mode = p.mode := by
  obtain ⟨stat, hstat, e⟩ := p.coincidenceCheck_eq
  rw [e]
  show stat.extractLsb' 0 2 = p.stat.extractLsb' 0 2
  refine BitVec.eq_of_getLsbD_eq fun k hk => ?_
  rw [BitVec.getLsbD_extractLsb', BitVec.getLsbD_extractLsb', hstat _ (by omega), if_neg (by omega)]

/-- The mode follows the position (R371). -/
theorem Tick.mode (h : p.Tick q) (hp : p.PositionOk) (hm : p.mode = modeAt p.ly.toNat p.lineCycle) :
    q.mode = modeAt q.ly.toNat q.lineCycle := by
  obtain ⟨hly, hlt, h4⟩ := hp
  have hcheck (hc : p.lineCycle = 0) :
      (p.movedTo p.ly 4).coincidenceCheck.mode =
        modeAt (p.movedTo p.ly 4).coincidenceCheck.ly.toNat (p.movedTo p.ly 4).coincidenceCheck.lineCycle := by
    obtain ⟨-, ely, elc⟩ := (p.movedTo p.ly 4).coincidenceCheck_position
    rw [coincidenceCheck_mode, ely, elc]
    exact hm.trans (hc ▸ (modeAt_add_four rfl (by omega)).symm)
  cases h with
  | visibleLine ly hc hly' hv => exact (setMode_mode _ _).trans (modeAt_oamScan (c := 0) hv (by decide)).symm
  | vblankLine ly hc hly' hv => exact (setMode_mode _ _).trans (modeAt_vblank hv.ge).symm
  | laterLine ly hc hly' hv =>
    exact (hm.trans (modeAt_vblank (by omega))).trans (modeAt_vblank (by show 144 ≤ ly.toNat; omega)).symm
  | check hc _ => exact hcheck hc
  | checkVblank hc _ => exact hcheck hc
  | draw hc hv => exact (setMode_mode _ _).trans (modeAt_draw (c := 80) hv (by decide) (by decide)).symm
  | hblank hc hv => exact (setMode_mode _ _).trans (modeAt_hblank (c := 252) hv (by decide)).symm
  | other h452 h0 hv => exact hm.trans (modeAt_add_four h4 hv).symm

/-- No tick writes bits 7:3 of STAT (R372 to R375). -/
theorem Tick.stat_high (h : p.Tick q) {k : Nat} (hk : 3 ≤ k) (hk' : k < 8) : q.stat.getLsbD k = p.stat.getLsbD k := by
  have hcheck : (p.movedTo p.ly 4).coincidenceCheck.stat.getLsbD k = p.stat.getLsbD k := by
    obtain ⟨stat, hstat, e⟩ := (p.movedTo p.ly 4).coincidenceCheck_eq
    rw [e]
    exact (hstat k hk').trans (if_neg (by omega))
  cases h with
  | visibleLine _ _ _ _ | vblankLine _ _ _ _ | draw _ _ | hblank _ _ => exact setMode_stat_high _ _ (by omega) hk'
  | check _ _ | checkVblank _ _ => exact hcheck
  | laterLine _ _ _ _ | other _ _ _ => rfl

/-! The requests. -/

/-- What a tick requests, and what it makes of the coincidence flag, by the position it reaches (R372 to R375, R394). -/
theorem Tick.requests (h : p.Tick q) :
    q.vblankReq = (p.vblankReq || decide (q.ly.toNat = 144 ∧ q.lineCycle = 4)) ∧
    q.frameDone = (p.frameDone || decide (q.ly.toNat = 144 ∧ q.lineCycle = 4)) ∧
    q.statReq = (p.statReq || (p.stat.getLsbD 3 && decide (q.ly.toNat ≤ 143 ∧ q.lineCycle = 252))
      || (p.stat.getLsbD 4 && decide (q.ly.toNat = 144 ∧ q.lineCycle = 0))
      || (p.stat.getLsbD 5 && decide (q.ly.toNat ≤ 143 ∧ q.lineCycle = 0))
      || (p.stat.getLsbD 6 && decide (q.lineCycle = 4 ∧ q.ly = q.lyc))) ∧
    q.stat.getLsbD 2 = (if q.lineCycle = 4 then decide (q.ly = q.lyc) else p.stat.getLsbD 2) := by
  cases h with
  | visibleLine ly hc hly hv =>
    have h144 : ly.toNat ≠ 144 := by omega
    rw [setMode_stat_high _ _ (by decide) (by decide)]
    simp [setMode, movedTo, hv, h144]
  | vblankLine ly hc hly hv =>
    rw [setMode_stat_high _ _ (by decide) (by decide)]
    simp [setMode, movedTo, hv]
  | laterLine ly hc hly hv =>
    have h143 : ¬ ly.toNat ≤ 143 := by omega
    have h144 : ly.toNat ≠ 144 := by omega
    simp [movedTo, h143, h144]
  | check hc hly | checkVblank hc hly =>
    obtain ⟨stat, hstat, e⟩ := (p.movedTo p.ly 4).coincidenceCheck_eq
    rw [e]
    refine ⟨by simp [movedTo, hly], by simp [movedTo, hly], ?_, hstat 2 (by decide)⟩
    have hcycle : (p.movedTo p.ly 4).lineCycle = 4 := rfl
    simp only [hcycle, Nat.reduceEqDiff, and_false, decide_false, Bool.and_false, Bool.or_false, OfNat.ofNat_ne_zero, true_and]
    rfl
  | draw hc hv =>
    rw [setMode_stat_high _ _ (by decide) (by decide)]
    simp [setMode, movedTo]
  | hblank hc hv =>
    rw [setMode_stat_high _ _ (by decide) (by decide)]
    simp [setMode, renderLine, movedTo, hv]
  | other h452 h0 hv =>
    have h252 : ¬ (p.ly.toNat ≤ 143 ∧ p.lineCycle = 248) := by omega
    simp [movedTo, h0, h252]

/-! The rendered lines. -/

/-- The one tick that writes frame and source renders the line (R372, R381). -/
theorem Tick.rendered (h : p.Tick q) :
    (p.lineCycle = 248 ∧ p.ly.toNat ≤ 143 ∧ q.frame = (p.renderLine p.ly.toNat).frame ∧
      q.source = (p.renderLine p.ly.toNat).source) ∨
    (¬ (p.lineCycle = 248 ∧ p.ly.toNat ≤ 143) ∧ q.frame = p.frame ∧ q.source = p.source) := by
  cases h with
  | hblank hc hv => exact .inl ⟨hc, hv, rfl, rfl⟩
  | visibleLine _ hc _ _ | vblankLine _ hc _ _ | laterLine _ hc _ _ | draw hc _ => exact .inr ⟨by omega, rfl, rfl⟩
  | check hc _ | checkVblank hc _ =>
    obtain ⟨_, -, e⟩ := (p.movedTo p.ly 4).coincidenceCheck_eq
    rw [e]
    exact .inr ⟨by omega, rfl, rfl⟩
  | other _ _ hv => exact .inr ⟨by omega, rfl, rfl⟩

/-- The cells of the frame after a line is rendered: of that line the pixels' shades, of the others what they were (R381). -/
theorem frameAt_renderLine (line y : Nat) {x : Nat} (hx : x < 160) :
    (p.renderLine line).frameAt y x = if y = line then (p.pixel y x).shade else p.frameAt y x := by
  simp only [frameAt, renderLine, Sparse.get_set]
  split
  · next h => simp [h, Config.screenWidth, hx]
  · rfl

theorem sourceAt_renderLine (line y : Nat) {x : Nat} (hx : x < 160) :
    (p.renderLine line).sourceAt y x = if y = line then (p.pixel y x).layer else p.sourceAt y x := by
  simp only [sourceAt, renderLine, Sparse.get_set]
  split
  · next h => simp [h, Config.screenWidth, hx]
  · rfl

end Ppu

/-- Settles O48, by induction on the number of ticks. -/
theorem positionAdvances : Obligations.PositionAdvances := by
  intro p n he hp
  dsimp only
  induction n with
  | zero =>
    refine ⟨he, hp, ?_⟩
    unfold Ppu.PositionOk at hp
    rw [Function.iterate_zero_apply]
    omega
  | succ n ih =>
    obtain ⟨he', hp', hcycle⟩ := ih
    have htick := Ppu.advance_tick he'
    rw [Function.iterate_succ_apply']
    refine ⟨htick.enabled.trans he', htick.positionOk hp', ?_⟩
    rw [htick.cycleOfFrame hp', hcycle]
    omega

/-- Settles O49: the requests by the position that the tick reaches; bits 7:3 of STAT are the enables and more. -/
theorem displayRequests : Obligations.DisplayRequests := by
  intro p he _
  have htick := Ppu.advance_tick he
  obtain ⟨hvblank, hdone, hstat, hflag⟩ := htick.requests
  refine ⟨hvblank, hdone, hstat, hflag, BitVec.eq_of_getLsbD_eq fun k hk => ?_⟩
  rw [BitVec.getLsbD_extractLsb', BitVec.getLsbD_extractLsb', htick.stat_high (by omega) (by omega)]

/-- Settles O51: the tick from cycle 248 of a visible line renders it, and no other tick writes frame or source. -/
theorem lineRendered : Obligations.LineRendered := by
  intro p he _
  rcases (Ppu.advance_tick he).rendered with ⟨hc, hv, hframe, hsource⟩ | ⟨hne, hsame⟩
  · refine ⟨fun _ _ y x hx => ⟨?_, ?_⟩, fun hne => absurd ⟨hc, hv⟩ hne⟩
    · rw [← Ppu.frameAt_renderLine p.ly.toNat y hx, Ppu.frameAt, hframe]
      rfl
    · rw [← Ppu.sourceAt_renderLine p.ly.toNat y hx, Ppu.sourceAt, hsource]
      rfl
  · exact ⟨fun hc hv => absurd ⟨hc, hv⟩ hne, fun _ => hsame⟩

end Sys2Proof.Machine
end

section
/-! SUPPORT. The display's registers and position (R363, R370, R371, R377): every CPU write, every tick-of-4 and every other part
of a step keeps them in order. -/

namespace Sys2Proof.Machine

namespace Ppu

variable {p q : Ppu}

/-- `Ok` speaks of LCDC, STAT and the position only. -/
theorem Ok.congr (h : p.Ok) (hlcdc : q.lcdc = p.lcdc) (hstat : q.stat = p.stat) (hly : q.ly = p.ly)
    (hlc : q.lineCycle = p.lineCycle) : q.Ok := by
  obtain ⟨position, mode, bit7⟩ := h
  refine ⟨?_, ?_, ?_⟩
  · rwa [PositionOk, hly, hlc]
  · rwa [ModeOk, Ppu.mode, enabled, hlcdc, hstat, hly, hlc]
  · rwa [hstat]

/-- The display turned off, on, or neither (R362, R377, R378). -/
theorem writeLcdc_of_off {v : Byte} (he : p.enabled = true) (hv : v.getLsbD 7 = false) :
    p.writeLcdc v = { p with lcdc := v, stat := p.stat &&& 0xFC } := by simp only [writeLcdc, he, hv]; rfl

theorem writeLcdc_of_on {v : Byte} (he : p.enabled = false) (hv : v.getLsbD 7 = true) :
    p.writeLcdc v = { p with lcdc := v, ly := 0, lineCycle := 0, stat := (p.stat &&& 0xFC) ||| 2 } := by
  simp only [writeLcdc, he, hv]; rfl

theorem writeLcdc_of_same {v : Byte} (h : p.enabled = v.getLsbD 7) : p.writeLcdc v = { p with lcdc := v } := by
  cases hv : v.getLsbD 7 <;> simp only [writeLcdc, h, hv] <;> rfl

theorem Ok.writeLcdc (h : p.Ok) (v : Byte) : (p.writeLcdc v).Ok := by
  obtain ⟨position, mode, bit7⟩ := h
  have hcleared : (p.stat &&& 0xFC).getLsbD 7 = false := by rw [BitVec.getLsbD_and, bit7, Bool.false_and]
  by_cases hsame : p.enabled = v.getLsbD 7
  · rw [writeLcdc_of_same hsame]
    refine ⟨position, ?_, bit7⟩
    show p.mode = if v.getLsbD 7 then modeAt p.ly.toNat p.lineCycle else 0
    rwa [← hsame]
  cases hv : v.getLsbD 7 with
  | false =>
    rw [hv, Bool.not_eq_false] at hsame
    rw [writeLcdc_of_off hsame hv]
    refine ⟨position, ?_, hcleared⟩
    show (p.stat &&& 0xFC).extractLsb' 0 2 = if v.getLsbD 7 then modeAt p.ly.toNat p.lineCycle else 0
    rw [hv, if_neg Bool.false_ne_true, ← BitVec.or_zero (x := p.stat &&& 0xFC)]
    exact modeBits_replaced p.stat 0
  | true =>
    rw [hv, Bool.not_eq_true] at hsame
    rw [writeLcdc_of_on hsame hv]
    refine ⟨⟨Nat.zero_le _, Nat.succ_pos _, rfl⟩, ?_, ?_⟩
    · show ((p.stat &&& 0xFC) ||| 2).extractLsb' 0 2 = if v.getLsbD 7 then modeAt 0 0 else 0
      rw [hv]
      exact modeBits_replaced p.stat 2
    · show ((p.stat &&& 0xFC) ||| 2).getLsbD 7 = false
      rw [BitVec.getLsbD_or, hcleared]
      rfl

/-- A write to STAT leaves the mode and bit 7 (R363). -/
theorem Ok.writeStat (h : p.Ok) (v : Byte) : (p.writeStat v).Ok := by
  obtain ⟨position, mode, bit7⟩ := h
  refine ⟨position, (p.writeStat_mode v).trans mode, ?_⟩
  show ((p.stat &&& 0x87) ||| (v &&& 0x78)).getLsbD 7 = false
  have hunwritten : (0x78 : Byte).getLsbD 7 = false := rfl
  rw [BitVec.getLsbD_or, BitVec.getLsbD_and, BitVec.getLsbD_and, bit7, hunwritten, Bool.false_and, Bool.and_false, Bool.or_false]

/-- No CPU write puts the display in disorder. -/
theorem Ok.write (h : p.Ok) (a : Nat) (v : Byte) : (p.write a v).Ok := by
  rcases p.write_cases (a := a) v with e | e <;> rw [e]
  · exact h
  unfold set
  split
  · exact h.congr rfl rfl rfl rfl
  split
  · exact h.congr rfl rfl rfl rfl
  unfold writeReg
  split
  case h_1 => exact h.writeLcdc v
  case h_2 => exact h.writeStat v
  all_goals exact h.congr rfl rfl rfl rfl

/-- A tick-of-4 keeps the mode that of the position (R371, R372). -/
theorem Ok.advance (h : p.Ok) : p.advance.Ok := by
  obtain ⟨position, mode, bit7⟩ := h
  cases he : p.enabled with
  | false => exact (advance_of_disabled he).symm ▸ ⟨position, mode, bit7⟩
  | true =>
    have htick := advance_tick he
    refine ⟨htick.positionOk position, ?_, (htick.stat_high (by decide) (by decide)).trans bit7⟩
    rw [ModeOk, he, if_pos rfl] at mode
    rw [ModeOk, htick.enabled, he, if_pos rfl]
    exact htick.mode position mode

end Ppu

/-! The display on the BUS. -/

/-- An owner's store writes the display or leaves it alone. -/
theorem Bus.store_ppu_cases (b : Bus) (a : Nat) (v : Byte) :
    (b.store a v).ppu = b.ppu.write a v ∨ (b.store a v).ppu = b.ppu := by
  unfold Bus.store
  cases regionOf a
  case vram | oam | ppuReg => exact .inl rfl
  all_goals exact .inr rfl

theorem Bus.store_ppu_ok {b : Bus} (h : b.ppu.Ok) (a : Nat) (v : Byte) : (b.store a v).ppu.Ok := by
  rcases b.store_ppu_cases a v with e | e <;> rw [e]
  · exact h.write a v
  · exact h

/-- The DMA engine leaves the display's registers and position (R392). -/
theorem Bus.tick4_ppu_ok {b : Bus} (h : b.ppu.Ok) : b.tick4.ppu.Ok := by
  obtain ⟨_, _, _, _, e⟩ := b.dmaTick4_sameButDma
  have hdma : b.dmaTick4.ppu.Ok := by
    rw [e]
    exact h.congr rfl rfl rfl rfl
  exact hdma.advance

/-- Settles O39: the mode is kept that of the position by every CPU write (`Ppu.Ok.write`) and every tick-of-4
(`Ppu.Ok.advance`); the other parts of a step leave the registers it speaks of. -/
theorem displayInvariant : Obligations.DisplayInvariant := by
  intro s t hs h
  have hwrite : ∀ (b : Bus) (a : Word) (v : Byte), b.ppu.Ok → (b.memWrite a v).ppu.Ok := fun b a v hb =>
    b.memWrite_induct (P := fun b => b.ppu.Ok) (fun _ _ hb => hb) (fun _ a v hb => Bus.store_ppu_ok hb a v) a v hb
  exact step_bus (P := fun b => b.ppu.Ok) hwrite (fun _ _ hb => hb) (fun _ _ hb => hb)
    (fun _ hb => hb.congr rfl rfl rfl rfl) (fun _ _ hb => hb) (fun _ hb => Bus.tick4_ppu_ok hb) (fun _ _ hb => hb)
    (fun _ hb => hb.congr rfl rfl rfl rfl) s t h hs

end Sys2Proof.Machine
end

section
/-! SUPPORT. The stopped state (R272, R484): an idle step of it changes nothing of the CPU but what an interrupt dispatch does. -/

namespace Sys2Proof.Machine

/-- The stopped CPU `d` is one that `c` can become without leaving the stopped state: it has `c`'s registers, and where no
interrupt can be dispatched its SP and PC too, with the latch still clear (R484). -/
structure StoppedFrom (c d : Cpu) : Prop where
  stopped : d.stopped = true
  registers : d.a = c.a ∧ d.f = c.f ∧ d.b = c.b ∧ d.c = c.c ∧ d.d = c.d ∧ d.e = c.e ∧ d.h = c.h ∧ d.l = c.l
  noDispatch : c.ime = false → c.imePending = false → d.ime = false ∧ d.imePending = false ∧ d.sp = c.sp ∧ d.pc = c.pc

theorem StoppedFrom.refl {c : Cpu} (h : c.stopped = true) : StoppedFrom c c :=
  ⟨h, ⟨rfl, rfl, rfl, rfl, rfl, rfl, rfl, rfl⟩, fun hime hpending => ⟨hime, hpending, rfl, rfl⟩⟩

theorem StoppedFrom.wake {c : Cpu} {s : State} (h : StoppedFrom c s.cpu) : StoppedFrom c s.wake.cpu := by
  obtain ⟨_, hwake⟩ := s.wake_cpu
  rw [hwake]
  exact ⟨h.stopped, h.registers, h.noDispatch⟩

/-- The interrupt check dispatches only with IME set, and a dispatch changes SP, PC and IME only (R308). -/
theorem StoppedFrom.interruptCheck {c : Cpu} {s : State} (h : StoppedFrom c s.cpu) : StoppedFrom c s.interruptCheck.cpu := by
  cases hime : s.cpu.ime with
  | false =>
    rw [s.interruptCheck_of_ime_false hime]
    exact h.wake
  | true =>
    have hnone : ¬ (c.ime = false ∧ c.imePending = false) := fun ⟨h1, h2⟩ => by simp [(h.noDispatch h1 h2).1] at hime
    rcases s.interruptCheck_cases with e | ⟨i, e⟩ <;> rw [e]
    · exact h.wake
    · exact ⟨h.wake.stopped, h.wake.registers, fun h1 h2 => absurd ⟨h1, h2⟩ hnone⟩

/-- A step of a stopped CPU is idle (R278). -/
theorem step_of_stopped {c : Cpu} {s : State} (h : StoppedFrom c s.cpu) : ∃ t, step s = .next t ∧ StoppedFrom c t.cpu := by
  have hcheck : StoppedFrom c s.beginStep.interruptCheck.cpu := .interruptCheck (by rwa [State.beginStep_cpu])
  refine ⟨_, idleStep s _ rfl (.inr hcheck.stopped), ?_⟩
  show StoppedFrom c (ite _ _ _)
  split
  · next hpending =>
    exact ⟨hcheck.stopped, hcheck.registers, fun h1 h2 => by simp [(hcheck.noDispatch h1 h2).2.1] at hpending⟩
  · exact hcheck

/-- Settles O34: every step of the run starts from a CPU that the first state's stopped CPU can become. -/
theorem stopIsFinal : Obligations.StopIsFinal := by
  intro n s hstopped
  obtain ⟨t, ht, h⟩ := run_induct (P := fun t => StoppedFrom s.cpu t.cpu) (fun _ h => step_of_stopped h) n
    (s := s) (.refl hstopped)
  exact ⟨t, ht, h.stopped, h.registers, fun hime hpending => (h.noDispatch hime hpending).2.2⟩

end Sys2Proof.Machine
end

section
/-! SUPPORT. The interrupt check (R300, R306 to R310): which source is pending, and the one dispatch. -/

namespace Sys2Proof.Machine

/-- A source is pending when it is enabled and requested (R304). -/
theorem Bus.pending_getLsbD (b : Bus) {k : Nat} (hk : k < 5) :
    b.pending.getLsbD k = (b.ie.getLsbD k && b.ifReg.getLsbD k) := by
  have hsource : ∀ k, k < 5 → (0x1F : Byte).getLsbD k = true := by decide
  rw [pending, BitVec.getLsbD_and, BitVec.getLsbD_and, hsource k hk, Bool.and_true]

/-- The source of the lowest number is dispatched (R306). -/
theorem leastPending_eq_some {pend : Byte} {n : Nat} (hn : n < 5) (h : pend.getLsbD n = true)
    (hmin : ∀ m, m < n → pend.getLsbD m = false) : leastPending pend = some n := by
  rw [leastPending, List.find?_range_eq_some]
  exact ⟨h, List.mem_range.mpr hn, by simpa using hmin⟩

/-- With a source pending, the wake-up ends the halted state and does nothing else (R310). -/
theorem State.wake_of_pending {s : State} (h : s.bus.pending ≠ 0) : s.wake = s.setCpu { s.cpu with halted := false } := by
  unfold wake
  cases hh : s.cpu.halted with
  | true => exact if_pos (by simpa using h)
  | false =>
    rw [Bool.false_and, if_neg Bool.false_ne_true, ← hh]
    rfl

/-- Settles O32: `leastPending` is the source of the lowest number, and the dispatch pushes the woken CPU's PC. -/
theorem interruptCheck : Obligations.InterruptCheck := by
  refine ⟨fun s n hime hn hset hmin => ?_, fun s => ⟨State.interruptCheck_of_pending_zero, fun hime hpending => ?_⟩⟩
  · have hbit : s.bus.pending.getLsbD n = true := by rw [s.bus.pending_getLsbD hn, hset.1, hset.2]; rfl
    have hpending : s.bus.pending ≠ 0 := fun e => by simp [e] at hbit
    have hleast : leastPending s.bus.pending = some n := leastPending_eq_some hn hbit fun m hm => by
      rw [s.bus.pending_getLsbD (by omega)]
      simpa using hmin m hm
    refine ⟨resBit s.bus.ifReg n, fun k hk => getLsbD_resBit _ _ hk, ?_⟩
    have hsp : s.cpu.sp - 2 + 1 = s.cpu.sp - 1 := by bv_omega
    rw [State.interruptCheck, State.wake_of_pending hpending]
    simp only [State.setCpu_cpu, hime, if_true, hleast]
    rw [← hsp]
    rfl
  · rw [s.interruptCheck_of_ime_false hime]
    exact State.wake_of_pending hpending

end Sys2Proof.Machine
end

section
/-! SUPPORT. The Timer (61_timer.md): when a tick counts, said once by the divider's selected bit and once by the period; from it
a run of ticks. -/

namespace Sys2Proof.Machine

/-- A bit falls in exactly the increments that reach a multiple of twice its weight. -/
theorem testBit_falls_iff (n i : Nat) : (n.testBit i = true ∧ (n + 1).testBit i = false) ↔ (n + 1) % 2 ^ (i + 1) = 0 := by
  have hpos : 0 < 2 ^ i := Nat.two_pow_pos i
  rw [Nat.testBit_eq_decide_div_mod_eq, Nat.testBit_eq_decide_div_mod_eq, decide_eq_true_iff, decide_eq_false_iff_not,
    pow_succ, Nat.mod_mul, Nat.add_eq_zero_iff, mul_eq_zero, or_iff_right hpos.ne', Nat.succ_div]
  by_cases h : 2 ^ i ∣ n + 1
  · rw [if_pos h, Nat.mod_eq_zero_of_dvd h]
    generalize n / 2 ^ i = q
    omega
  · have hne := mt Nat.dvd_of_mod_eq_zero h
    rw [if_neg h]
    generalize n / 2 ^ i = q
    omega

namespace Timer

variable (t : Timer)

/-- The selected bit, by the rate field as a number (R348). -/
theorem selectedBit_eq : t.selectedBit = [9, 3, 5, 7].getD (t.tac.toNat % 4) 0 := by
  unfold selectedBit
  generalize t.tac = tac
  revert tac
  decide

/-- The number of cycles between two counts of an enabled Timer (R348). -/
def period : Nat := 2 ^ (t.selectedBit + 1)

theorem period_eq : t.period = [1024, 16, 64, 256].getD (t.tac.toNat % 4) 0 := by
  unfold period
  rw [selectedBit_eq]
  generalize t.tac = tac
  revert tac
  decide

theorem selectedBit_le : t.selectedBit ≤ 9 := by
  unfold selectedBit
  split <;> omega

theorem period_le : t.period ≤ 2 ^ 10 := Nat.pow_le_pow_right (by omega) (Nat.succ_le_succ t.selectedBit_le)

theorem enabled_iff : t.tac.getLsbD 2 = true ↔ 4 ≤ t.tac.toNat := by
  generalize t.tac = tac
  revert tac
  decide

/-- Whether the next tick counts: the Timer is enabled, and the selected bit of the divider falls (R347, R348). -/
def counts : Bool := t.tac.getLsbD 2 && t.div16.getLsbD t.selectedBit && !(t.div16 + 1).getLsbD t.selectedBit

theorem counts_iff : t.counts = true ↔
    4 ≤ t.tac.toNat ∧ t.div16.getLsbD t.selectedBit = true ∧ (t.div16 + 1).getLsbD t.selectedBit = false := by
  rw [counts, Bool.and_eq_true, Bool.and_eq_true, enabled_iff, Bool.not_eq_true', and_assoc]

/-- An enabled Timer counts in exactly the ticks that take the divider to a multiple of the period (R348). -/
theorem counts_iff_period : t.counts = true ↔ 4 ≤ t.tac.toNat ∧ (t.div16.toNat + 1) % t.period = 0 := by
  have hbit : t.selectedBit < 16 := Nat.lt_of_le_of_lt t.selectedBit_le (by omega)
  have hnext : (t.div16 + 1).getLsbD t.selectedBit = (t.div16.toNat + 1).testBit t.selectedBit := by
    rw [BitVec.getLsbD, BitVec.toNat_add, Nat.testBit_mod_two_pow]
    simp [hbit]
  rw [counts_iff, hnext, BitVec.getLsbD, testBit_falls_iff, period]

/-! One tick (R347, R349). -/

theorem tick_of_not_counts (h : ¬ t.counts = true) : t.tick = { t with div16 := t.div16 + 1 } := if_neg h

theorem tick_of_counts (h : t.counts = true) (hmax : t.tima ≠ 0xFF) :
    t.tick = { t with div16 := t.div16 + 1, tima := t.tima + 1 } := (if_pos h).trans (if_neg hmax)

theorem tick_of_overflow (h : t.counts = true) (hmax : t.tima = 0xFF) :
    t.tick = { t with div16 := t.div16 + 1, tima := t.tma, req := true } := (if_pos h).trans (if_pos hmax)

/-- A tick writes the divider, and where it counts the counter and the request. -/
theorem tick_eq : ∃ tima req, t.tick = { t with div16 := t.div16 + 1, tima, req } := by
  by_cases h : t.counts = true
  · by_cases hmax : t.tima = 0xFF
    · exact ⟨_, _, t.tick_of_overflow h hmax⟩
    · exact ⟨_, _, t.tick_of_counts h hmax⟩
  · exact ⟨_, _, t.tick_of_not_counts h⟩

/-! Runs of ticks (R350). -/

theorem run_succ (n : Nat) : t.run (n + 1) = (t.run n).tick := Function.iterate_succ_apply' _ _ _

theorem run_div16 (n : Nat) : (t.run n).div16 = t.div16 + BitVec.ofNat 16 n := by
  induction n with
  | zero => exact (BitVec.add_zero _).symm
  | succ n ih =>
    obtain ⟨_, _, e⟩ := (t.run n).tick_eq
    rw [run_succ, e, BitVec.ofNat_add, ← BitVec.add_assoc, ← ih]
    rfl

/-- A disabled Timer only moves its divider (R353 c). -/
theorem run_of_disabled (h : t.tac.getLsbD 2 = false) (n : Nat) : t.run n = { t with div16 := t.div16 + BitVec.ofNat 16 n } := by
  induction n with
  | zero => simp [run]
  | succ n ih =>
    have hidle : ¬ (t.run n).counts = true := by rw [ih, counts, h]; simp
    rw [run_succ, tick_of_not_counts _ hidle, ih, BitVec.ofNat_add, ← BitVec.add_assoc]
    rfl

/-- From a divider of 0, fewer ticks than the period do not reach a multiple of it, so that none of them counts (R353 d). -/
theorem run_of_lt_period (h0 : t.div16 = 0) {n : Nat} (hn : n < t.period) : t.run n = { t with div16 := BitVec.ofNat 16 n } := by
  induction n with
  | zero => exact congrArg (fun d => ({ t with div16 := d } : Timer)) h0
  | succ n ih =>
    have hrun := ih (by omega)
    have hidle : ¬ (t.run n).counts = true := by
      have hle := t.period_le
      rw [hrun, counts_iff_period]
      rintro ⟨-, (hmultiple : ((BitVec.ofNat 16 n).toNat + 1) % t.period = 0)⟩
      rw [BitVec.toNat_ofNat, Nat.mod_eq_of_lt (a := n) (by omega)] at hmultiple
      exact absurd ((Nat.mod_eq_of_lt hn).symm.trans hmultiple) (Nat.succ_ne_zero n)
    rw [run_succ, tick_of_not_counts _ hidle, hrun, BitVec.ofNat_add]
    rfl

/-- `u` is `t` but for its divider. -/
def SameButDivider (t u : Timer) : Prop := ∃ div16, u = { t with div16 }

/-- A write to DIV and fewer ticks than the period after it move the divider only (R343, R353 d). -/
theorem SameButDivider.writeDiv_run {t u : Timer} (h : t.SameButDivider u) (v : Byte) {m : Nat} (hm : m < t.period) :
    t.SameButDivider ((u.write 0xFF04 v).run m) := by
  obtain ⟨d, rfl⟩ := h
  exact ⟨_, run_of_lt_period (write { t with div16 := d } 0xFF04 v) rfl hm⟩

end Timer

/-- Settles O45: the two readings of `Timer.counts`. -/
theorem timerTick : Obligations.TimerTick := by
  refine ⟨fun t => ?_, fun t => ?_⟩
  · dsimp only
    rw [← t.selectedBit_eq, ← t.counts_iff]
    exact ⟨t.tick_of_not_counts, t.tick_of_counts, t.tick_of_overflow⟩
  · dsimp only
    rw [← t.period_eq]
    intro hmax
    split
    · next h => rw [t.tick_of_counts (t.counts_iff_period.mpr h) hmax]
    · next h => rw [t.tick_of_not_counts (mt t.counts_iff_period.mp h)]

/-- Settles O46: the registers by their cases, and the divider by induction on the ticks. -/
theorem dividerCounts : Obligations.DividerCounts := by
  refine ⟨fun t v => ⟨rfl, rfl, rfl, rfl, rfl, rfl, ?_⟩, fun t n => ⟨t.run_div16 n, ?_, fun h => ?_⟩⟩
  · show (t.tac.setWidth 8).extractLsb' 0 3 = t.tac
    generalize t.tac = tac
    revert tac
    decide
  · show hiByte ((t.write 0xFF04 0).run n).div16 = _
    rw [Timer.run_div16]
    show (0#16 + BitVec.ofNat 16 n).extractLsb' 8 8 = _
    apply BitVec.eq_of_toNat_eq
    rw [BitVec.zero_add, BitVec.extractLsb'_toNat, BitVec.toNat_ofNat, BitVec.toNat_ofNat, Nat.shiftRight_eq_div_pow]
    omega
  · rw [t.run_of_disabled h]
    exact ⟨rfl, rfl⟩

/-- Settles O47, by induction on the number of rounds. -/
theorem dividerWritesHoldCounter : Obligations.DividerWritesHoldCounter := by
  intro t v m n hm
  rw [← t.period_eq] at hm
  have hheld : t.SameButDivider ((fun u : Timer => (u.write 0xFF04 v).run m)^[n] t) := by
    induction n with
    | zero => exact ⟨_, rfl⟩
    | succ n ih =>
      rw [Function.iterate_succ_apply']
      exact ih.writeDiv_run v hm
  obtain ⟨_, e⟩ := hheld
  rw [e]
  exact ⟨rfl, rfl, rfl⟩

end Sys2Proof.Machine
end

section
/-! SUPPORT. The display's memories and registers as the CPU accesses them (R361 to R369, R377 to R380, R391). -/

namespace Sys2Proof.Machine

namespace Ppu

variable (p : Ppu)

/-! Gating (R379, R380). -/

theorem gated_vram {a : Nat} (h : 0x8000 ≤ a ∧ a < 0xA000) : p.gated a = true ↔ p.mode = 3 := by
  have hvram : 0x8000 ≤ a ∧ a ≤ 0x9FFF := by omega
  have hoam : ¬ (0xFE00 ≤ a ∧ a ≤ 0xFE9F) := by omega
  simp [gated, hvram, hoam]

theorem gated_oam {a : Nat} (h : 0xFE00 ≤ a ∧ a < 0xFEA0) : p.gated a = true ↔ p.mode = 2 ∨ p.mode = 3 := by
  have hvram : ¬ (0x8000 ≤ a ∧ a ≤ 0x9FFF) := by omega
  have hoam : 0xFE00 ≤ a ∧ a ≤ 0xFE9F := by omega
  simp [gated, hvram, hoam]

theorem get_vram {a : Nat} (h : 0x8000 ≤ a ∧ a < 0xA000) : p.get a = Memory.read p.vram (a - 0x8000) := if_pos (by omega)

theorem get_oam {a : Nat} (h : 0xFE00 ≤ a ∧ a < 0xFEA0) : p.get a = Memory.read p.oam (a - 0xFE00) := by
  rw [get, if_neg (by omega), if_pos (by omega)]

/-! Registers. -/

/-- Of the bits of STAT a write stores 6:3 (R363). -/
theorem writeStat_eq (v : Byte) : ∃ w : Byte, p.writeStat v = { p with stat := w } ∧
    ∀ k, k < 8 → w.getLsbD k = if 3 ≤ k ∧ k ≤ 6 then v.getLsbD k else p.stat.getLsbD k := by
  refine ⟨_, rfl, fun k hk => ?_⟩
  have hkept : ∀ k, k < 8 → (0x87 : Byte).getLsbD k = !decide (3 ≤ k ∧ k ≤ 6) := by decide
  have hwritten : ∀ k, k < 8 → (0x78 : Byte).getLsbD k = decide (3 ≤ k ∧ k ≤ 6) := by decide
  rw [BitVec.getLsbD_or, BitVec.getLsbD_and, BitVec.getLsbD_and, hkept k hk, hwritten k hk]
  by_cases h : 3 ≤ k ∧ k ≤ 6 <;> simp [h]

/-- A register other than STAT and LY reads back what is written (R361 to R369). -/
theorem readReg_writeReg_same {a : Nat} (h : 0xFF40 ≤ a) (h' : a ≤ 0xFF4B) (hstat : a ≠ 0xFF41) (hly : a ≠ 0xFF44) (v : Byte) :
    (p.writeReg a v).readReg a = v := by
  unfold writeReg
  split
  case h_1 =>
    obtain ⟨_, _, _, e⟩ := p.writeLcdc_eq v
    rw [e]
    rfl
  case h_2 => exact absurd rfl hstat
  case h_5 => exact absurd rfl hly
  case h_13 =>
    simp only [imp_false] at *
    omega
  all_goals rfl

theorem read_write_register {a : Nat} (h : 0xFF40 ≤ a) (h' : a ≤ 0xFF4B) (hstat : a ≠ 0xFF41) (hly : a ≠ 0xFF44) (v : Byte) :
    (p.write a v).read a = v := by
  rw [write_register v h, read_register h, get, if_neg (by omega), if_neg (by omega)]
  exact p.readReg_writeReg_same h h' hstat hly v

end Ppu

/-- Settles O28: each access by whether the mode gates it. -/
theorem displayGating : Obligations.DisplayGating := by
  intro p v
  refine ⟨fun k hk => ?_, fun k hk => ?_⟩
  · have ha : 0x8000 ≤ 0x8000 + k ∧ 0x8000 + k < 0xA000 := by omega
    have hget := p.get_vram ha
    have hset := Ppu.set_vram (p := p) v ha
    rw [Nat.add_sub_cancel_left] at hget hset
    simp [Ppu.read, Ppu.write, p.gated_vram ha, hget, hset, Config.allOnes]
  · have ha : 0xFE00 ≤ 0xFE00 + k ∧ 0xFE00 + k < 0xFEA0 := by omega
    have hget := p.get_oam ha
    have hset := Ppu.set_oam (p := p) v ha
    rw [Nat.add_sub_cancel_left] at hget hset
    simp [Ppu.read, Ppu.write, p.gated_oam ha, hget, hset, Config.allOnes]

/-- Settles O50: no register is gated, so that a write is its register's case of `writeReg`. -/
theorem displayRegisterWrites : Obligations.DisplayRegisterWrites := by
  refine ⟨fun p v => ?_, fun p v => ?_⟩
  · rw [Ppu.write_register v (by decide)]
    exact ⟨Ppu.writeLcdc_of_off, Ppu.writeLcdc_of_on, Ppu.writeLcdc_of_same, Ppu.advance_of_disabled⟩
  · refine ⟨?_, ?_, ?_, ?_, fun a h h' hstat hly => p.read_write_register h h' hstat hly v⟩
    · rw [Ppu.write_register v (by decide)]
      exact p.writeStat_eq v
    · exact Ppu.write_register v (by decide)
    · exact Ppu.write_register v (by decide)
    · exact ⟨Ppu.write_register v (by decide), Ppu.write_register v (by decide), Ppu.write_register v (by decide),
        Ppu.write_register v (by decide), Ppu.write_register v (by decide), Ppu.write_register v (by decide),
        Ppu.write_register v (by decide), Ppu.write_register v (by decide)⟩

end Sys2Proof.Machine
end

section
/-! SUPPORT. The Joypad (64_joypad.md): its register bit by bit, and when a refresh raises its request. -/

namespace Sys2Proof.Machine

namespace Joypad

variable (j : Joypad)

/-- The low nibble of the register is the AND of the selected groups (R461). -/
theorem read_getLsbD {k : Nat} (hk : k < 4) : j.read.getLsbD k =
    ((j.select.getLsbD 0 || j.buttons.getLsbD k) && (j.select.getLsbD 1 || j.buttons.getLsbD (k + 4))) := by
  have hones : ∀ k, (h : k < 4) → (15#4)[k] = true := by decide
  rw [read, BitVec.getLsbD_append, if_pos hk, BitVec.getLsbD_and]
  congr 1
  · cases j.select.getLsbD 0 <;> simp [hones k hk, hk]
  · cases j.select.getLsbD 1 <;> simp [hones k hk, hk, Nat.add_comm]

/-- The group of button `k` is selected by bit `k / 4` of the register's selection, when it is clear (R461, R463). -/
theorem mask_getLsbD {k : Nat} (hk : k < 8) : j.mask.getLsbD k = !j.select.getLsbD (k / 4) := by
  unfold mask
  generalize j.select = select
  revert select k
  decide

/-- A refresh requests when a button of a selected group has changed, either way (R463). -/
theorem refresh_changed_iff (pressed : Byte) : (j.buttons ^^^ ~~~pressed) &&& j.mask ≠ 0 ↔
    ∃ k, k < 8 ∧ j.select.getLsbD (k / 4) = false ∧ j.buttons.getLsbD k = pressed.getLsbD k := by
  have hbit {k : Nat} (hk : k < 8) : ((j.buttons ^^^ ~~~pressed) &&& j.mask).getLsbD k = true ↔
      j.select.getLsbD (k / 4) = false ∧ j.buttons.getLsbD k = pressed.getLsbD k := by
    rw [BitVec.getLsbD_and, BitVec.getLsbD_xor, BitVec.getLsbD_not, j.mask_getLsbD hk]
    cases j.select.getLsbD (k / 4) <;> cases j.buttons.getLsbD k <;> simp [hk]
  constructor
  · intro hne
    obtain ⟨k, hk, hset⟩ : ∃ k, k < 8 ∧ ((j.buttons ^^^ ~~~pressed) &&& j.mask).getLsbD k = true := by
      by_contra hnone
      push Not at hnone
      exact hne (BitVec.eq_of_getLsbD_eq fun k hk => by simpa using hnone k hk)
    exact ⟨k, hk, (hbit hk).mp hset⟩
  · rintro ⟨k, hk, hchanged⟩ hzero
    have hset := (hbit hk).mpr hchanged
    rw [hzero] at hset
    simp at hset

end Joypad

/-- Settles O59: the register bit by bit, and the request by `refresh_changed_iff`. -/
theorem joypadRegister : Obligations.JoypadRegister := by
  intro j v pressed
  refine ⟨fun k hk => j.read_getLsbD hk, ?_, rfl, rfl, rfl, ?_⟩
  · rw [Joypad.read, BitVec.extractLsb'_append_eq_of_le (Nat.le_refl 4)]
    exact BitVec.extractLsb'_append_eq_right
  · rw [← j.refresh_changed_iff]
    simp [Joypad.refresh]

end Sys2Proof.Machine
end

section
/-! SUPPORT. The four cartridges (R427 to R434): the selector values as numbers, and the two ROM windows and the RAM window of
each variant. -/

namespace Sys2Proof.Machine

/-! Selector values. -/

theorem lowNibble_eq_ten_iff (v : Byte) : v &&& 0x0F = 0x0A ↔ v.toNat % 16 = 10 := by
  rw [← BitVec.toNat_inj, BitVec.toNat_and]
  exact (Nat.and_two_pow_sub_one_eq_mod v.toNat 4).congr_left

/-- A bank field of `k` bits, coerced away from 0 (R427). -/
theorem coerceBank_field_toNat (v : Byte) {k : Nat} (hk : k ≤ 7) :
    (coerceBank ((v.extractLsb' 0 k).setWidth 7)).toNat = if v.toNat % 2 ^ k = 0 then 1 else v.toNat % 2 ^ k := by
  have hfield : ((v.extractLsb' 0 k).setWidth 7).toNat = v.toNat % 2 ^ k := by
    rw [BitVec.toNat_setWidth_of_le hk, BitVec.extractLsb'_toNat, Nat.shiftRight_zero]
  rw [← hfield]
  unfold coerceBank
  by_cases h : (v.extractLsb' 0 k).setWidth 7 = 0
  · rw [if_pos h, if_pos (by rw [h]; rfl)]
    rfl
  · have hne : ((v.extractLsb' 0 k).setWidth 7).toNat ≠ 0 := fun h0 => h (BitVec.eq_of_toNat_eq h0)
    rw [if_neg h, if_neg hne]

/-- Scheme-A's bank with its low field replaced (R431). -/
theorem lowBank_replaced_toNat (bank : BitVec 7) {n : BitVec 7} (hn : n.toNat < 32) :
    (bank &&& 0x60 ||| n).toNat = bank.toNat / 32 * 32 + n.toNat := by
  have hhigh : ∀ bank : BitVec 7, (bank &&& 0x60).toNat = 2 ^ 5 * (bank.toNat / 32) := by decide
  rw [BitVec.toNat_or, hhigh, ← Nat.two_pow_add_eq_or_of_lt hn]
  omega

/-- Scheme-A's bank with its high field replaced (R431). -/
theorem highBank_replaced_toNat (bank : BitVec 7) (v : Byte) :
    ((v.extractLsb' 0 2) ++ (bank.extractLsb' 0 5) : BitVec 7).toNat = v.toNat % 4 * 32 + bank.toNat % 32 := by
  rw [BitVec.toNat_append, ← Nat.shiftLeft_add_eq_or_of_lt (BitVec.isLt _), BitVec.extractLsb'_toNat, BitVec.extractLsb'_toNat,
    Nat.shiftRight_zero, Nat.shiftRight_zero, Nat.shiftLeft_eq]

namespace Cart

variable {c : Cart} {a : Nat}

/-- The RAM is enabled by a low nibble of 0xA (R429). -/
theorem setEnable_eq (v : Byte) : c.setEnable v = { c with ramEnable := decide (v.toNat % 16 = 10) } := by
  simp only [setEnable, lowNibble_eq_ten_iff]

/-! The ROM windows. -/

theorem read_fixedWindow (h : a < 0x4000) : c.read a = Memory.read c.rom a := by
  rw [read, if_pos (by omega), romCell, if_pos h]

/-- The switchable window of a variant with a bank selector (R428). -/
theorem read_switchedWindow (hv : c.variant ≠ .romOnly) (h : 0x4000 ≤ a) (h' : a < 0x8000) :
    c.read a = Memory.read c.rom (0x4000 * (c.romBank.toNat % c.romBanks) + (a - 0x4000)) := by
  have hbank : c.switchedBank = c.romBank.toNat % c.romBanks := by
    unfold switchedBank
    split
    · contradiction
    · rfl
  rw [read, if_pos h', romCell, if_neg (by omega), hbank]
  rfl

/-- The windows of the ROM-only variant show the first two banks (R430). -/
theorem read_romOnly (hv : c.variant = .romOnly) (h : a < 0x8000) : c.read a = Memory.read c.rom a := by
  by_cases h4 : a < 0x4000
  · exact read_fixedWindow h4
  · have hcell : c.romCell a = a := by
      rw [romCell, if_neg h4, switchedBank, hv]
      simp only [Config.romBankSize]
      omega
    rw [read, if_pos h, hcell]

theorem write_schemeA (hv : c.variant = .schemeA) (h : a < 0x8000) (v : Byte) : c.write a v = c.selectA a v := by
  rw [write, if_pos h, hv]

theorem write_schemeB (hv : c.variant = .schemeB) (h : a < 0x8000) (v : Byte) : c.write a v = c.selectB a v := by
  rw [write, if_pos h, hv]

theorem write_schemeC (hv : c.variant = .schemeC) (h : a < 0x8000) (v : Byte) : c.write a v = c.selectC a v := by
  rw [write, if_pos h, hv]

/-! The RAM window. -/

/-- Only Scheme-C has clock registers (R433). -/
theorem rtcCell_eq_none (h : c.variant ≠ .schemeC) : c.rtcCell = none := by simp [rtcCell, h]

/-- A cell of RAM that the window reaches; the nibbles of Scheme-B apart (R430, R431, R433). -/
theorem access_ramCell {k : Nat} (ha : 0xA000 ≤ a) (hv : c.variant ≠ .schemeB) (hclock : c.rtcCell = none)
    (hcell : c.ramCell a = some k) (v : Byte) :
    c.read a = Memory.read c.ram k ∧ c.write a v = { c with ram := Memory.write c.ram k v } := by
  rw [read_of_ram (by omega), write_of_ram _ _ (by omega), readRam, writeRam, hclock, hcell]
  cases h : c.variant
  case schemeB => exact absurd h hv
  all_goals exact ⟨rfl, rfl⟩

/-- A window that reaches nothing reads 0xFF and ignores writes (R429, R430). -/
theorem access_nothing (ha : 0xA000 ≤ a) (hclock : c.rtcCell = none) (hcell : c.ramCell a = none) (v : Byte) :
    c.read a = 0xFF ∧ c.write a v = c := by
  rw [read_of_ram (by omega), write_of_ram _ _ (by omega), readRam, writeRam, hclock, hcell]
  exact ⟨rfl, rfl⟩

/-- The 4-bit cells of Scheme-B (R432). -/
theorem access_nibble {k : Nat} (ha : 0xA000 ≤ a) (hv : c.variant = .schemeB) (hcell : c.ramCell a = some k) (v : Byte) :
    c.read a &&& 0x0F = Memory.read c.ram k &&& 0x0F ∧ c.write a v = { c with ram := Memory.write c.ram k (v &&& 0x0F) } := by
  have hclock : c.rtcCell = none := rtcCell_eq_none (by rw [hv]; decide)
  rw [read_of_ram (by omega), write_of_ram _ _ (by omega), readRam, writeRam, hclock, hcell, hv]
  refine ⟨?_, rfl⟩
  show (0xF0 ||| (Memory.read c.ram k &&& 0x0F)) &&& 0x0F = _
  have hhigh : (0xF0 : Byte) &&& 0x0F = 0#8 := by decide
  rw [BitVec.and_or_distrib_right, hhigh, BitVec.zero_or, BitVec.and_assoc, BitVec.and_self]

/-- A shadow clock register that the window reaches (R433). -/
theorem access_clock {i : Nat} (ha : 0xA000 ≤ a) (hclock : c.rtcCell = some i) (hi : i < 5) (v : Byte) :
    ∃ w : Vector Byte 5, c.write a v = { c with rtc := w } ∧
      (∀ k, k < 5 → w.toList.getD k 0 = if k = i then v else c.rtc.toList.getD k 0) ∧ c.read a = c.rtc.toList.getD i 0 := by
  rw [read_of_ram (by omega), write_of_ram _ _ (by omega), readRam, writeRam, hclock]
  refine ⟨_, rfl, fun k hk => ?_, ?_⟩
  · have hlen : k < c.rtc.toList.length := by simpa using hk
    rw [Vector.toList_setIfInBounds, List.getD_eq_getElem?_getD, List.getElem?_set, List.getD_eq_getElem?_getD]
    by_cases h : k = i
    · subst h
      simp [hk]
    · simp [h, Ne.symm h]
  · have hlen : i < c.rtc.toList.length := by simpa using hi
    dsimp only
    rw [List.getD_eq_getElem _ _ hlen, List.getD_eq_getElem _ _ hlen]

end Cart

/-- Settles O56: the selector windows by `selectA`'s cases, the RAM window by its one cell. -/
theorem schemeACartridge : Obligations.SchemeACartridge := by
  intro c a v hv
  have hclock : c.rtcCell = none := Cart.rtcCell_eq_none (by rw [hv]; decide)
  have hcell : c.ramCell a = if c.ramEnable && c.ramSize ≠ 0 then some (c.bankedCell c.ramBank.toNat a) else none := by
    rw [Cart.ramCell, hv]
  refine ⟨Cart.read_fixedWindow, Cart.read_switchedWindow (by rw [hv]; decide), fun h => ?_, fun h h' => ?_, fun h h' hmode => ?_,
    fun h h' hmode => ?_, fun h h' => ?_, fun h _ hen hsize => ?_, fun h _ hoff => ?_⟩
  · rw [Cart.write_schemeA hv (by omega), Cart.selectA, if_pos h, Cart.setEnable_eq]
  · rw [Cart.write_schemeA hv (by omega), Cart.selectA, if_neg (by omega), if_pos h']
    refine ⟨_, rfl, ?_⟩
    have hfield := coerceBank_field_toNat v (show 5 ≤ 7 by decide)
    rw [lowBank_replaced_toNat _ (by rw [hfield]; split <;> omega), hfield]
    rfl
  · rw [Cart.write_schemeA hv (by omega), Cart.selectA, if_neg (by omega), if_neg (by omega), if_pos h', hmode]
    exact ⟨_, rfl, highBank_replaced_toNat _ v⟩
  · rw [Cart.write_schemeA hv (by omega), Cart.selectA, if_neg (by omega), if_neg (by omega), if_pos h', hmode]
    rfl
  · rw [Cart.write_schemeA hv h', Cart.selectA, if_neg (by omega), if_neg (by omega), if_neg (by omega)]
  · exact Cart.access_ramCell h (by rw [hv]; decide) hclock (hcell.trans (if_pos (by simp [hen, hsize]))) v
  · exact Cart.access_nothing h hclock (hcell.trans (if_neg (by rcases hoff with e | e <;> simp [e]))) v

/-- Settles O57: the selector windows by `selectB`'s cases, the RAM window by its one cell. -/
theorem romOnlyAndSchemeB : Obligations.RomOnlyAndSchemeB := by
  refine ⟨fun c a v hv => ?_, fun c a v hv => ?_⟩
  · have hclock : c.rtcCell = none := Cart.rtcCell_eq_none (by rw [hv]; decide)
    have hcell : c.ramCell a = if c.ramSize = 0 then none else some ((a - 0xA000) % c.ramSize) := by rw [Cart.ramCell, hv]
    exact ⟨fun h => ⟨Cart.read_romOnly hv h, Cart.write_romOnly v h hv⟩,
      fun h _ hsize => Cart.access_nothing h hclock (hcell.trans (if_pos hsize)) v,
      fun h _ hsize => Cart.access_ramCell h (by rw [hv]; decide) hclock (hcell.trans (if_neg hsize)) v⟩
  · have hclock : c.rtcCell = none := Cart.rtcCell_eq_none (by rw [hv]; decide)
    have hcell : c.ramCell a = if c.ramEnable then some ((a - 0xA000) % 512) else none := by rw [Cart.ramCell, hv]
    refine ⟨Cart.read_fixedWindow, Cart.read_switchedWindow (by rw [hv]; decide), fun h h8 => ?_, fun h h8 => ?_, fun h h' => ?_,
      fun h _ hen => Cart.access_nibble h hv (hcell.trans (if_pos hen)) v,
      fun h _ hen => Cart.access_nothing h hclock (hcell.trans (if_neg (by simp [hen]))) v⟩
    · rw [Cart.write_schemeB hv (by omega), Cart.selectB, if_pos h, if_pos h8, Cart.setEnable_eq]
    · rw [Cart.write_schemeB hv (by omega), Cart.selectB, if_pos h, if_neg (by omega)]
      exact ⟨_, rfl, coerceBank_field_toNat v (show 4 ≤ 7 by decide)⟩
    · rw [Cart.write_schemeB hv h', Cart.selectB, if_neg (by omega)]

/-- Settles O58: the selector windows by `selectC`'s cases, the RAM window by what the selector makes it reach. -/
theorem schemeCCartridge : Obligations.SchemeCCartridge := by
  intro c a v hv
  have hclock : c.rtcCell = if c.ramEnable && 8 ≤ c.sel.toNat && c.sel.toNat ≤ 0xC then some (c.sel.toNat - 8) else none := by
    simp only [Cart.rtcCell, hv, decide_true, Bool.true_and]
  have hcell : c.ramCell a =
      if c.ramEnable && c.sel.toNat ≤ 3 && c.ramSize ≠ 0 then some (c.bankedCell c.sel.toNat a) else none := by
    rw [Cart.ramCell, hv]
  refine ⟨Cart.read_fixedWindow, Cart.read_switchedWindow (by rw [hv]; decide), fun h => ?_, fun h h' => ?_, fun h h' => ?_,
    fun h h' => ?_, fun h _ hen hsel hsize => ?_, fun h _ hen hsel => ?_, fun h _ hoff => ?_⟩
  · rw [Cart.write_schemeC hv (by omega), Cart.selectC, if_pos h, Cart.setEnable_eq]
  · rw [Cart.write_schemeC hv (by omega), Cart.selectC, if_neg (by omega), if_pos h']
    have hfield := coerceBank_field_toNat v (show 7 ≤ 7 by decide)
    rw [BitVec.setWidth_eq] at hfield
    exact ⟨_, rfl, hfield⟩
  · rw [Cart.write_schemeC hv (by omega), Cart.selectC, if_neg (by omega), if_neg (by omega), if_pos h']
  · rw [Cart.write_schemeC hv h', Cart.selectC, if_neg (by omega), if_neg (by omega), if_neg (by omega)]
  · have hnone : ¬ 8 ≤ c.sel.toNat := by omega
    exact Cart.access_ramCell h (by rw [hv]; decide) (hclock.trans (if_neg (by simp [hnone])))
      (hcell.trans (if_pos (by simp [hen, hsel, hsize]))) v
  · obtain ⟨hlo, hhi⟩ := hsel
    exact Cart.access_clock h (hclock.trans (if_pos (by simp [hen, hlo, hhi]))) (by omega) v
  · refine Cart.access_nothing h (hclock.trans (if_neg ?_)) (hcell.trans (if_neg ?_)) v
    · rcases hoff with e | ⟨hsel, -⟩
      · simp [e]
      · simpa [and_assoc] using fun _ => not_and.mp hsel
    · rcases hoff with e | ⟨-, hsel⟩
      · simp [e]
      · simpa [and_assoc] using fun _ => not_and.mp hsel

end Sys2Proof.Machine
end

section
/-! SUPPORT. The compositor (R382 to R390): the background's pixel on the bytes of video RAM, which sprites a line shows, and
which of them a pixel is. -/

namespace Sys2Proof.Machine

namespace Ppu

variable (p : Ppu)

/-! Background and window (R382 to R385, R390). -/

/-- The offset of a tile's bytes in video RAM, by LCDC's addressing mode (R385). -/
def tileOffset (t : Byte) : Nat :=
  if p.lcdc.getLsbD 4 then 16 * t.toNat else if t.toNat < 128 then 0x1000 + 16 * t.toNat else 16 * t.toNat

theorem tileAddr_eq (t : Byte) : p.tileAddr t = 0x8000 + p.tileOffset t := by
  have hlt : t.toNat < 256 := t.isLt
  unfold tileAddr tileOffset
  rw [BitVec.toInt_eq_toNat_cond]
  split_ifs <;> omega

theorem vramAt_eq (k : Nat) : p.vramAt (0x8000 + k) = Memory.read p.vram k := by
  rw [vramAt, Nat.add_sub_cancel_left]

/-- The colour index of a tile's pixel (R390). -/
theorem tilePixel_eq (tile r c : Nat) : p.tilePixel (0x8000 + tile) r c =
    BitVec.ofBool ((Memory.read p.vram (tile + 2 * r + 1)).getLsbD (7 - c)) ++
      BitVec.ofBool ((Memory.read p.vram (tile + 2 * r)).getLsbD (7 - c)) := by
  simp only [tilePixel, Nat.add_assoc, vramAt_eq]

/-- The colour index of a map's pixel (R382, R384). -/
theorem mapIndex_eq (map px py : Nat) : p.mapIndex (0x8000 + map) px py =
    let tile := p.tileOffset (Memory.read p.vram (map + 32 * (py / 8) + px / 8))
    BitVec.ofBool ((Memory.read p.vram (tile + 2 * (py % 8) + 1)).getLsbD (7 - px % 8)) ++
      BitVec.ofBool ((Memory.read p.vram (tile + 2 * (py % 8))).getLsbD (7 - px % 8)) := by
  simp only [mapIndex, Nat.add_assoc, vramAt_eq, tileAddr_eq]
  simp only [← Nat.add_assoc, tilePixel_eq]

theorem tileMapBase_eq (second : Bool) : tileMapBase second = 0x8000 + if second then 0x1C00 else 0x1800 := by
  cases second <;> rfl

theorem windowCovers_iff (x y : Nat) : p.windowCovers x y = true ↔
    p.lcdc.getLsbD 5 = true ∧ p.wy.toNat ≤ y ∧ p.wx.toNat - 7 ≤ x := by
  rw [windowCovers, Bool.and_eq_true, Bool.and_eq_true, decide_eq_true_iff, decide_eq_true_iff, and_assoc]
  rfl

/-! Which sprites a line shows (R387). -/

/-- An element of the first `m` of the numbers below `n` that satisfy `f`: fewer than `m` before it do. -/
theorem mem_take_filter_range (f : Nat → Bool) (n m i : Nat) :
    i ∈ ((List.range n).filter f).take m ↔ i < n ∧ f i = true ∧ (List.range i).countP f < m := by
  induction n with
  | zero => simp
  | succ n ih =>
    rw [List.range_succ, List.filter_append, List.take_append, List.mem_append, ih, ← List.countP_eq_length_filter]
    have hlast : i ∈ ([n].filter f).take (m - (List.range n).countP f) ↔
        i = n ∧ f i = true ∧ (List.range i).countP f < m := by
      cases hf : f n with
      | false => simpa [hf] using fun (e : i = n) h => by simp [e, hf] at h
      | true =>
        rw [show [n].filter f = [n] by simp [hf]]
        cases hm : m - (List.range n).countP f with
        | zero =>
          refine ⟨fun h => by simp at h, ?_⟩
          rintro ⟨rfl, -, h⟩
          omega
        | succ j =>
          simp only [List.take_succ_cons, List.take_nil, List.mem_singleton]
          refine ⟨?_, And.left⟩
          rintro rfl
          exact ⟨rfl, hf, by omega⟩
    rw [hlast, Nat.lt_succ_iff_lt_or_eq, or_and_right]

/-! Which sprite a pixel is (R388). -/

variable {p} {y x i : Nat} {px : Pixel}

/-- A pixel that is a sprite's already is left to it: the lower table index wins. -/
theorem spriteOnPixel_of_sprite (h : px.layer = .sprite) : p.spriteOnPixel y x px i = px := by
  unfold spriteOnPixel
  dsimp only
  split_ifs <;> rfl

/-- A pixel of the background or the window becomes that of a sprite that shows over it. -/
theorem spriteOnPixel_of_ne_sprite (h : px.layer ≠ .sprite) : p.spriteOnPixel y x px i =
    if p.spriteShows y x px.bgIndex i then { px with shade := p.spriteShade y x i, layer := .sprite } else px := by
  unfold spriteOnPixel spriteShows spriteShade spriteIndexAt
  dsimp only
  by_cases hcol : (p.spriteByte i 1).toNat ≤ x + 8 ∧ x < (p.spriteByte i 1).toNat
  · rw [if_pos hcol, if_pos (by omega)]
    dsimp only [Option.getD_some]
    generalize p.tilePixel _ _ _ = idx
    generalize (p.spriteByte i 3).getLsbD 7 = behind
    by_cases hidx : idx = 0#2
    · simp [hidx]
    cases behind with
    | false => simp [hidx, h]
    | true => by_cases hbg : px.bgIndex = 0#2 <;> simp [hidx, h, hbg]
  · rw [if_neg hcol, if_neg (by omega), if_neg Bool.false_ne_true]

theorem foldl_spriteOnPixel_of_sprite (l : List Nat) (h : px.layer = .sprite) : l.foldl (p.spriteOnPixel y x) px = px := by
  induction l with
  | nil => rfl
  | cons i l ih => rw [List.foldl_cons, spriteOnPixel_of_sprite h, ih]

/-- The pixel is that of the first sprite of the list that shows. -/
theorem foldl_spriteOnPixel (l : List Nat) (h : px.layer ≠ .sprite) : l.foldl (p.spriteOnPixel y x) px =
    match l.find? (p.spriteShows y x px.bgIndex) with
    | none => px
    | some i => { px with shade := p.spriteShade y x i, layer := .sprite } := by
  induction l with
  | nil => rfl
  | cons i l ih =>
    rw [List.foldl_cons, spriteOnPixel_of_ne_sprite h, List.find?_cons]
    cases hshows : p.spriteShows y x px.bgIndex i with
    | true => exact foldl_spriteOnPixel_of_sprite l rfl
    | false => exact ih

theorem bgWindowPixel_layer_ne_sprite : (p.bgWindowPixel x y).layer ≠ .sprite := by
  unfold bgWindowPixel
  dsimp only
  split_ifs <;> exact Layer.noConfusion

end Ppu

/-- Settles O54: the three cases of `bgWindowPixel`, its addresses as offsets into video RAM. -/
theorem backgroundPixel : Obligations.BackgroundPixel := by
  intro p x y
  dsimp only
  rw [← p.windowCovers_iff]
  refine ⟨fun h0 => ?_, fun h0 hcovers => ?_, fun h0 hcovers => ?_⟩
  · rw [Ppu.bgWindowPixel, h0]
    rfl
  · rw [Ppu.bgWindowPixel, if_pos h0, if_pos hcovers, Ppu.tileMapBase_eq, p.mapIndex_eq]
    rfl
  · rw [Ppu.bgWindowPixel, if_pos h0, if_neg hcovers, Ppu.tileMapBase_eq, p.mapIndex_eq]
    rfl

/-- Settles O52: the first ten of the entries that are on the line. -/
theorem spriteSelection : Obligations.SpriteSelection := by
  intro p y
  dsimp only
  have hascending : ((List.range 40).filter (p.spriteOnLine y)).Pairwise (· < ·) := List.pairwise_lt_range.filter _
  exact ⟨List.length_take_le 10 _, hascending.sublist (List.take_sublist 10 _), fun i =>
    Ppu.mem_take_filter_range (p.spriteOnLine y) 40 10 i⟩

/-- Settles O53, by induction on the selected sprites. -/
theorem spritePriority : Obligations.SpritePriority := by
  intro p y x h
  exact (if_pos h).trans (Ppu.foldl_spriteOnPixel _ Ppu.bgWindowPixel_layer_ne_sprite)

end Sys2Proof.Machine
end

section
/-! SUPPORT. A DMA transfer (R391 to R393): one tick of the running engine, and from it the 161 ticks. -/

namespace Sys2Proof.Machine

namespace Ppu

variable {p q : Ppu}

/-- `q` has `p`'s memories and its DMA engine. -/
def SameEngine (p q : Ppu) : Prop :=
  q.vram = p.vram ∧ q.oam = p.oam ∧ q.dmaActive = p.dmaActive ∧ q.dmaSrc = p.dmaSrc ∧ q.dmaTick = p.dmaTick

theorem Tick.sameEngine (h : p.Tick q) : p.SameEngine q := by
  cases h with
  | check _ _ | checkVblank _ _ =>
    obtain ⟨_, -, e⟩ := (p.movedTo p.ly 4).coincidenceCheck_eq
    rw [e]
    exact ⟨rfl, rfl, rfl, rfl, rfl⟩
  | visibleLine _ _ _ _ | vblankLine _ _ _ _ | laterLine _ _ _ _ | draw _ _ | hblank _ _ | other _ _ _ =>
    exact ⟨rfl, rfl, rfl, rfl, rfl⟩

/-- The scanline state machine writes neither memory, nor the DMA engine (R372). -/
theorem advance_sameEngine (p : Ppu) : p.SameEngine p.advance := by
  cases he : p.enabled with
  | false => rw [advance_of_disabled he]; exact ⟨rfl, rfl, rfl, rfl, rfl⟩
  | true => exact (advance_tick he).sameEngine

end Ppu

namespace Bus

variable {b c : Bus}

/-- Below the hole of R68 an ungated read depends on the cartridge, work RAM and the display's memories only. -/
theorem get_memory_congr {a : Nat} (ha : a < 0xFEA0) (hcart : c.cart = b.cart) (hwram : c.wram = b.wram)
    (hvram : c.ppu.vram = b.ppu.vram)
    (hoam : 0xFE00 ≤ a → Memory.read c.ppu.oam (a - 0xFE00) = Memory.read b.ppu.oam (a - 0xFE00)) : c.get a = b.get a := by
  have hbounds := regionOf_bounds a
  unfold get readWith
  cases hr : regionOf a <;> simp only [hr, Region.Bounds] at hbounds <;> dsimp only
  case rom | cartRam => rw [hcart]
  case vram => rw [Ppu.get_vram _ hbounds, Ppu.get_vram _ hbounds, hvram]
  case wram | echo => rw [hwram]
  case oam => rw [Ppu.get_oam _ hbounds, Ppu.get_oam _ hbounds, hoam hbounds.1]
  case joyp | timer | ppuReg | ioSlot | hram | ie => omega

/-- The byte that the engine copies in its next tick, from the second tick on (R392). -/
def dmaStored (b : Bus) : Memory :=
  if b.ppu.dmaTick = 0 then b.ppu.oam
  else Memory.write b.ppu.oam (b.ppu.dmaTick - 1) (b.get (b.ppu.dmaSrc.toNat * 256 + (b.ppu.dmaTick - 1)))

theorem dmaTransfer_ppu (b : Bus) :
    b.dmaTransfer.ppu = { b.ppu with dmaTick := b.ppu.dmaTick + 1, oam := b.dmaStored } := by
  unfold dmaTransfer dmaStored
  dsimp only
  by_cases h0 : b.ppu.dmaTick = 0
  · rw [if_neg (by omega), if_pos h0]
  · rw [if_pos (by omega), if_neg h0, show b.ppu.dmaTick + 1 - 2 = b.ppu.dmaTick - 1 by omega]
    simp only [dmaCopy, note_ppu]
    rfl

/-- One tick of the running engine (R392): it ends the transfer in its 161st. -/
theorem dmaTick4_ppu (h : b.ppu.dmaActive = true) : b.dmaTick4.ppu =
    { b.ppu with dmaTick := b.ppu.dmaTick + 1, oam := b.dmaStored, dmaActive := decide (b.ppu.dmaTick + 1 ≠ 161) } := by
  rw [b.dmaTick4_of_active h]
  by_cases hlast : b.ppu.dmaTick + 1 = Config.dmaTicks
  · rw [if_pos hlast, dmaTransfer_ppu]
    simp [hlast, Config.dmaTicks]
  · rw [if_neg hlast, dmaTransfer_ppu]
    rw [Config.dmaTicks] at hlast
    simp [hlast, h]

theorem read_dmaStored (b : Bus) (k : Nat) : Memory.read b.dmaStored k =
    if k + 1 = b.ppu.dmaTick then b.get (b.ppu.dmaSrc.toNat * 256 + k) else Memory.read b.ppu.oam k := by
  unfold dmaStored
  by_cases h0 : b.ppu.dmaTick = 0
  · rw [if_pos h0, if_neg (by omega)]
  rw [if_neg h0, Memory.read_write]
  by_cases hk : k + 1 = b.ppu.dmaTick
  · rw [if_pos (by omega), if_pos hk, ← hk, Nat.add_sub_cancel]
  · rw [if_neg (by omega), if_neg hk]

/-- A tick-of-4 with the engine running. -/
theorem tick4_ppu (h : b.ppu.dmaActive = true) :
    b.tick4.ppu.vram = b.ppu.vram ∧ b.tick4.ppu.oam = b.dmaStored ∧
    b.tick4.ppu.dmaActive = decide (b.ppu.dmaTick + 1 ≠ 161) ∧ b.tick4.ppu.dmaSrc = b.ppu.dmaSrc ∧
    b.tick4.ppu.dmaTick = b.ppu.dmaTick + 1 := by
  have hsame := b.dmaTick4.ppu.advance_sameEngine
  have hppu : b.tick4.ppu = b.dmaTick4.ppu.advance := rfl
  rw [hppu]
  rw [dmaTick4_ppu h] at hsame ⊢
  exact hsame

/-- The BUS `c` after `n` ticks of a transfer of page `page` that began in `b`: the page still reads as it did at the beginning,
and the bytes before byte `n - 1` are copied. -/
structure Transferred (b : Bus) (page : Byte) (n : Nat) (c : Bus) : Prop where
  active : c.ppu.dmaActive = decide (n < 161)
  tick : c.ppu.dmaTick = n
  src : c.ppu.dmaSrc = page
  source : ∀ k, k < 160 → c.get (page.toNat * 256 + k) = b.get (page.toNat * 256 + k)
  copied : ∀ k, k < 160 → k + 1 < n → Memory.read c.ppu.oam k = b.get (page.toNat * 256 + k)

/-- A write to the DMA register begins a transfer, one running or not (R391). -/
theorem transferred_start (b : Bus) {page : Byte} (hpage : page.toNat ≤ 0xFE) :
    Transferred b page 0 (b.memWrite 0xFF46 page) := by
  have hunblocked : ¬ b.blocks (0xFF46 : Word).toNat = true := by simp [blocks_iff]
  have hwrite : b.memWrite 0xFF46 page =
      { b with ppu := b.ppu.startDma page, io := Memory.write b.io (0xFF46 - 0xFF00) page } := by
    rw [memWrite, if_neg hunblocked]
    refine (write_ppuReg (by decide)).trans ?_
    rw [Ppu.write_register page (by decide)]
    rfl
  rw [hwrite]
  exact ⟨rfl, rfl, rfl, fun k hk => get_memory_congr (by omega) rfl rfl rfl fun _ => rfl, fun k _ hk => absurd hk (by omega)⟩

/-- A tick-of-4 in the transfer: one byte more is copied. The page can be object memory itself, which is copied onto
itself. -/
theorem Transferred.tick4 {page : Byte} {n : Nat} (h : Transferred b page n c) (hpage : page.toNat ≤ 0xFE) (hn : n < 161) :
    Transferred b page (n + 1) c.tick4 := by
  obtain ⟨hactive, htick, hsrc, hsource, hcopied⟩ := h
  obtain ⟨hvram, hoam, hactive', hsrc', htick'⟩ := tick4_ppu (hactive.trans (decide_eq_true hn))
  obtain ⟨_, _, hframe⟩ := c.tick4_sameButPpu
  have hread (k : Nat) : Memory.read c.tick4.ppu.oam k =
      if k + 1 = n then c.get (page.toNat * 256 + k) else Memory.read c.ppu.oam k := by
    rw [hoam, read_dmaStored, htick, hsrc]
  refine ⟨hactive'.trans (decide_eq_decide.mpr (by omega)), htick'.trans (by rw [htick]), hsrc'.trans hsrc, fun k hk => ?_,
    fun k hk hkn => ?_⟩
  · rw [← hsource k hk]
    refine get_memory_congr (by omega) (by rw [hframe]) (by rw [hframe]) hvram fun hself => ?_
    have hoamAddr : 0xFE00 ≤ page.toNat * 256 + k ∧ page.toNat * 256 + k < 0xFEA0 := ⟨hself, by omega⟩
    have hcell : page.toNat * 256 + k - 0xFE00 = k := by omega
    rw [hread, hcell, get, readWith_ppu (.inr (.inl (regionOf_eq hoamAddr))), Ppu.get_oam _ hoamAddr, hcell, ite_self]
  · rw [hread]
    by_cases hlast : k + 1 = n
    · rw [if_pos hlast, hsource k hk]
    · rw [if_neg hlast, hcopied k hk (by omega)]

theorem transferred_run (b : Bus) {page : Byte} (hpage : page.toNat ≤ 0xFE) {n : Nat} (hn : n ≤ 161) :
    Transferred b page n (Bus.tick4^[n] (b.memWrite 0xFF46 page)) := by
  induction n with
  | zero => exact b.transferred_start hpage
  | succ n ih =>
    rw [Function.iterate_succ_apply']
    exact (ih (by omega)).tick4 hpage (by omega)

end Bus

/-- Settles O55: the invariant of the transfer, at the tick in question and at the last. -/
theorem dmaTransfer : Obligations.DmaTransfer := by
  intro b v hv
  have hend := b.transferred_run hv (n := 161) (by omega)
  exact ⟨fun n hn => (b.transferred_run hv (by omega)).active.trans (decide_eq_true hn), hend.active,
    fun k hk => hend.copied k hk (by omega)⟩

end Sys2Proof.Machine
end

section
/-! SUPPORT. Construction (R422 to R426, R473): the checks in their order, and the bytes of the arrays that the cartridge begins
with. -/

namespace Sys2Proof.Machine

/-! RAM_INIT of a cartridge. -/

/-- An index that no cell has is unlisted. -/
theorem Sparse.get_of_forall_ne {α : Type} (d : α) {m : List (Nat × α)} {k : Nat} (h : ∀ x ∈ m, x.1 ≠ k) :
    Sparse.get d m k = d := by
  induction m with
  | nil => rfl
  | cons x m ih =>
    obtain ⟨i, w⟩ := x
    rw [Sparse.get, if_neg (h (i, w) (by simp)), ih fun y hy => h y (by simp [hy])]

/-- An array cut to nibbles and brought to its canonical form reads as the low nibbles (R432). -/
theorem Memory.read_nibbles {m : Memory} (h : m.Pairwise fun x y => x.1 < y.1) (k : Nat) :
    Memory.read ((m.map fun c => (c.1, c.2 &&& 0x0F)).filter fun c => c.2 ≠ 0) k = Memory.read m k &&& 0x0F := by
  induction m with
  | nil => exact BitVec.zero_and.symm
  | cons x m ih =>
    obtain ⟨i, w⟩ := x
    obtain ⟨hfirst, hrest⟩ := List.pairwise_cons.mp h
    have ih := ih hrest
    have hcons : Memory.read ((i, w) :: m) k = if i = k then w else Memory.read m k := rfl
    rw [List.map_cons, List.filter_cons, hcons]
    by_cases hik : i = k
    · rw [if_pos hik]
      split
      · simp [Memory.read, Sparse.get, hik]
      · next hzero =>
        have habsent : Memory.read m k = 0#8 := Sparse.get_of_forall_ne 0 fun x hx => by
          have := hfirst x hx
          omega
        rw [ih, habsent, BitVec.zero_and]
        have hw : w &&& 0x0F = 0 := by simpa using hzero
        exact hw.symm
    · rw [if_neg hik, ← ih]
      split
      · exact if_neg hik
      · rfl

/-- A cartridge's RAM begins with RAM_INIT's bytes, Scheme-B's with their low nibbles (R432). -/
theorem Cart.read_initialRam (v : Variant) {n size : Nat} {init : Memory} (h : Memory.wf n init) {k : Nat} (hk : k < size) :
    Memory.read (Cart.initialRam v size init) k =
      if v = .schemeB then Memory.read init k &&& 0x0F else Memory.read init k := by
  have hrestrict := Memory.read_restrict size init k hk
  have hwf : Memory.wf size (Memory.restrict size init) := Memory.wf_restrict h
  cases v with
  | schemeB => rw [if_pos rfl, ← hrestrict]; exact Memory.read_nibbles hwf.1 k
  | romOnly | schemeA | schemeC => exact hrestrict

/-- No cartridge has more than 32 KB of RAM (R426). -/
theorem ramOf_le {typeCode ramCode : Byte} {size : Nat} (h : ramOf typeCode ramCode = some size) : size ≤ 0x8000 := by
  unfold ramOf at h
  split at h
  · split at h <;> simp at h <;> omega
  · split at h <;> simp at h <;> omega

/-! The checks. -/

/-- The image holds LOGO (R423). -/
def Image.LogoOk (img : Image) : Prop := ∀ k, k < 48 → Memory.read img.bytes (0x104 + k) = logo.getD k 0

theorem Image.logoOk_iff (img : Image) :
    (List.range 48).map (fun i => Memory.read img.bytes (0x0104 + i)) = logo ↔ img.LogoOk := by
  have hlen : logo.length = 48 := by decide
  constructor
  · intro h k hk
    rw [← h]
    simp [hk]
  · intro h
    refine List.ext_getElem (by simp [hlen]) fun k hk _ => ?_
    have hk' : k < 48 := by simpa using hk
    rw [List.getElem_map, List.getElem_range, h k hk', List.getD_eq_getElem _ _ (by omega)]

theorem banksOf_eq_none {code : Byte} (h : 8 < code.toNat) : banksOf code = none := if_neg (not_le.mpr h)

theorem banksOf_eq_some {code : Byte} (h : code.toNat ≤ 8) : banksOf code = some (2 * 2 ^ code.toNat) := if_pos h

variable {img : Image} {init : Memory}

namespace Cart

theorem construct_of_short (h : img.len < 0x150) : Cart.construct img init = .error .size := if_pos h

theorem construct_of_no_logo (h : 0x150 ≤ img.len) (hlogo : ¬ img.LogoOk) : Cart.construct img init = .error .format := by
  rw [Cart.construct, if_neg (not_lt.mpr h), if_pos (mt img.logoOk_iff.mp hlogo)]

variable (h : 0x150 ≤ img.len) (hlogo : img.LogoOk)
include h hlogo

theorem construct_of_no_variant (hv : variantOf (Memory.read img.bytes 0x147) = none) :
    Cart.construct img init = .error .unsupported := by
  rw [Cart.construct, if_neg (not_lt.mpr h), if_neg (not_not.mpr (img.logoOk_iff.mpr hlogo)), hv]

variable {v : Variant} (hv : variantOf (Memory.read img.bytes 0x147) = some v)
include hv

theorem construct_of_no_banks (hb : 8 < (Memory.read img.bytes 0x148).toNat) : Cart.construct img init = .error .format := by
  rw [Cart.construct, if_neg (not_lt.mpr h), if_neg (not_not.mpr (img.logoOk_iff.mpr hlogo)), hv, banksOf_eq_none hb]

variable (hb : (Memory.read img.bytes 0x148).toNat ≤ 8)
include hb

theorem construct_of_truncated (hlen : img.len < 0x4000 * (2 * 2 ^ (Memory.read img.bytes 0x148).toNat)) :
    Cart.construct img init = .error .size := by
  rw [Cart.construct, if_neg (not_lt.mpr h), if_neg (not_not.mpr (img.logoOk_iff.mpr hlogo)), hv, banksOf_eq_some hb]
  exact if_pos hlen

variable (hlen : 0x4000 * (2 * 2 ^ (Memory.read img.bytes 0x148).toNat) ≤ img.len)
include hlen

theorem construct_of_no_ram (hr : ramOf (Memory.read img.bytes 0x147) (Memory.read img.bytes 0x149) = none) :
    Cart.construct img init = .error .format := by
  rw [Cart.construct, if_neg (not_lt.mpr h), if_neg (not_not.mpr (img.logoOk_iff.mpr hlogo)), hv, banksOf_eq_some hb, hr]
  exact if_neg (not_lt.mpr hlen)

theorem construct_of_valid {size : Nat}
    (hr : ramOf (Memory.read img.bytes 0x147) (Memory.read img.bytes 0x149) = some size) :
    let banks := 2 * 2 ^ (Memory.read img.bytes 0x148).toNat
    Cart.construct img init = .ok (Cart.atReset v banks (Memory.restrict (0x4000 * banks) img.bytes) size
      (Cart.initialRam v size init)) := by
  rw [Cart.construct, if_neg (not_lt.mpr h), if_neg (not_not.mpr (img.logoOk_iff.mpr hlogo)), hv, banksOf_eq_some hb, hr]
  exact if_neg (not_lt.mpr hlen)

end Cart

/-- Construction fails where its cartridge does (R473). -/
theorem construct_error (r : Config.ResetRegs) {m : RamInit} {e : LoadError}
    (h : Cart.construct img (Memory.restrict 0x8000 m.cartRam) = .error e) : construct img r m = .error e := by
  rw [construct, h]

/-- Construction holds the cartridge that it gives. -/
theorem construct_ok (r : Config.ResetRegs) {m : RamInit} {c : Cart}
    (h : Cart.construct img (Memory.restrict 0x8000 m.cartRam) = .ok c) : ∃ s, construct img r m = .ok s ∧ s.bus.cart = c := by
  rw [construct, h]
  exact ⟨_, rfl, rfl⟩

/-- Settles O44: one lemma for each check that can fail, and the arrays that an accepted image gives. -/
theorem construction : Obligations.Construction := by
  intro img r m
  refine ⟨fun h => construct_error r (Cart.construct_of_short h),
    fun h hlogo => construct_error r (Cart.construct_of_no_logo h hlogo),
    fun h hlogo hv => construct_error r (Cart.construct_of_no_variant h hlogo hv), fun v h hlogo hv =>
    ⟨fun hb => construct_error r (Cart.construct_of_no_banks h hlogo hv hb), fun hb =>
    ⟨fun hlen => construct_error r (Cart.construct_of_truncated h hlogo hv hb hlen), fun hlen =>
    ⟨fun hr => construct_error r (Cart.construct_of_no_ram h hlogo hv hb hlen hr), fun size hr hwf => ?_⟩⟩⟩⟩
  obtain ⟨s, hs, hcart⟩ := construct_ok r (m := m) (Cart.construct_of_valid h hlogo hv hb hlen hr)
  have hsize := ramOf_le hr
  refine ⟨s, hs, ?_⟩
  rw [hcart]
  refine ⟨⟨rfl, rfl, rfl⟩, fun k hk => Memory.read_restrict _ _ k hk, fun k hk => ?_, rfl, rfl, rfl, rfl, rfl, rfl⟩
  have hram := Cart.read_initialRam v (Memory.wf_restrict (k := 0x8000) hwf) hk
  rw [Memory.read_restrict 0x8000 m.cartRam k (by omega)] at hram
  exact hram

end Sys2Proof.Machine
end
